-- ==== Sys2Proof/Word.lean ====
section
/-! DEFINITION. The two widths of the core (00_scope.md R10): `u8` and `u16`. -/

namespace Sys2Proof

/-- `u8`: an 8-bit register or memory cell (R10). -/
abbrev Byte := BitVec 8

/-- `u16`: an address, a register pair, SP or PC (R10). -/
abbrev Word := BitVec 16

end Sys2Proof
end

