-- ==== Sys2Proof/Machine/Bits.lean ====
section
/-! DEFINITION. Byte order, extensions and the bit fields of an opcode byte (00_scope.md R9, R11;
30_encoding.md R111, R112). -/

namespace Sys2Proof

/-- `hi(w) = w[15:8]` (R11). -/
def hi (w : Word) : Byte := w.extractLsb' 8 8

/-- `lo(w) = w[7:0]` (R11). -/
def lo (w : Word) : Byte := w.extractLsb' 0 8

/-- `w16(h, l) = h·256 + l` (R11). -/
def w16 (h l : Byte) : Word := h ++ l

/-- `sext16(e)`: the byte read as a two's-complement number, mod 2^16 (R11). -/
def sext16 (e : Byte) : Word := e.signExtend 16

/-- `zext16(b)`: the byte read as 0..255 (R11). -/
def zext16 (b : Byte) : Word := b.setWidth 16

/-- Field x, `op[7:6]` (R111, R112). -/
def xField (op : Byte) : BitVec 2 := op.extractLsb' 6 2

/-- Field y, `op[5:3]` (R111, R112). -/
def yField (op : Byte) : BitVec 3 := op.extractLsb' 3 3

/-- Field z, `op[2:0]` (R111, R112). -/
def zField (op : Byte) : BitVec 3 := op.extractLsb' 0 3

/-- Field p, `op[5:4]` (R111). -/
def pField (op : Byte) : BitVec 2 := op.extractLsb' 4 2

/-- Field q, `op[3]` (R111). -/
def qField (op : Byte) : Bool := op.getLsbD 3

/-- The condition field cc, `op[4:3]` (R116). -/
def ccField (op : Byte) : BitVec 2 := op.extractLsb' 3 2

end Sys2Proof
end

