-- ==== Sys2Proof/Machine/Flags.lean ====
section
/-! DEFINITION. The flags register (10_state.md R32–R35) and the flag engine (40_flag_engine.md
R160–R176). Every function is total; sums are taken on unbounded integers and then truncated (R160). -/

namespace Sys2Proof.Machine

/-- The four flags (R35). -/
inductive FlagKind where
  | zero
  | subtract
  | halfCarry
  | carry
deriving DecidableEq, Repr

/-- The bit of F that holds a flag (R32). -/
def FlagKind.bit : FlagKind → Nat
  | .zero => 7
  | .subtract => 6
  | .halfCarry => 5
  | .carry => 4

/-- `get_flag` on a value of F (R35). -/
def getFlag (k : FlagKind) (f : Byte) : Bool := f.getLsbD k.bit

/-- What F holds after `v` is written to it: the low nibble is forced to zero (R33). -/
def maskF (v : Byte) : Byte := v &&& 0xF0

/-- The flags Z, N, H and C laid out as in R32. -/
def packF (z n h c : Bool) : Byte :=
  (if z then 0x80 else 0) ||| (if n then 0x40 else 0) ||| (if h then 0x20 else 0) ||| (if c then 0x10 else 0)

/-- `set_flag` on a value of F (R35): one bit, then the mask of R33. -/
def setFlag (k : FlagKind) (v : Bool) (f : Byte) : Byte :=
  maskF (if v then f ||| (1#8 <<< k.bit) else f &&& ~~~(1#8 <<< k.bit))

/-- A flag record (R160): `none` is `keep`. -/
structure FlagRec where
  z : Option Bool
  n : Option Bool
  h : Option Bool
  c : Option Bool
deriving DecidableEq, Repr

/-- Applying a record to F: each field that is not `keep` is written; F[3:0] stays 0 (R160). -/
def FlagRec.apply (fl : FlagRec) (f : Byte) : Byte :=
  packF (fl.z.getD (getFlag .zero f)) (fl.n.getD (getFlag .subtract f))
    (fl.h.getD (getFlag .halfCarry f)) (fl.c.getD (getFlag .carry f))

/-- `v AND 0xF` as a number. -/
def lowNibble (v : Byte) : Nat := (v &&& 0x0F).toNat

/-- `add8(a, b, cin)` (R161). -/
def add8 (a b : Byte) (cin : Bool) : Byte × FlagRec :=
  let s := a.toNat + b.toNat + cin.toNat
  let res := BitVec.ofNat 8 s
  (res, { z := some (decide (res = 0)), n := some false
          h := some (decide (lowNibble a + lowNibble b + cin.toNat > 0xF)), c := some (decide (s > 0xFF)) })

/-- `sub8(a, b, cin)` (R162). -/
def sub8 (a b : Byte) (cin : Bool) : Byte × FlagRec :=
  let d : Int := (a.toNat : Int) - b.toNat - cin.toNat
  let res := BitVec.ofInt 8 d
  (res, { z := some (decide (res = 0)), n := some true
          h := some (decide (lowNibble a < lowNibble b + cin.toNat))
          c := some (decide (a.toNat < b.toNat + cin.toNat)) })

/-- `inc8(v)` (R176). -/
def inc8 (v : Byte) : Byte × FlagRec :=
  let res := v + 1
  (res, { z := some (decide (res = 0)), n := some false, h := some (decide (lowNibble v = 0xF)), c := none })

/-- `dec8(v)` (R176). -/
def dec8 (v : Byte) : Byte × FlagRec :=
  let res := v - 1
  (res, { z := some (decide (res = 0)), n := some true, h := some (decide (lowNibble v = 0x0)), c := none })

/-- `add16(hl, rr)` (R164): H is the carry out of bit 11, C the carry out of bit 15, Z is kept. -/
def add16 (hl rr : Word) : Word × FlagRec :=
  let s := hl.toNat + rr.toNat
  (BitVec.ofNat 16 s,
    { z := none, n := some false
      h := some (decide ((hl &&& 0x0FFF).toNat + (rr &&& 0x0FFF).toNat > 0x0FFF))
      c := some (decide (s > 0xFFFF)) })

/-- `addsp(sp, e)` (R165): the value is signed, the flags are those of the unsigned low-byte add. -/
def addsp (sp : Word) (e : Byte) : Word × FlagRec :=
  (sp + sext16 e,
    { z := some false, n := some false
      h := some (decide ((sp &&& 0x0F).toNat + lowNibble e > 0x0F))
      c := some (decide ((sp &&& 0xFF).toNat + e.toNat > 0xFF)) })

/-- The operations of `logic` (R166). -/
inductive LogicOp where
  | and
  | or
  | xor
deriving DecidableEq, Repr

/-- `logic(op, a, b)` (R166). -/
def logic (op : LogicOp) (a b : Byte) : Byte × FlagRec :=
  let res := match op with
    | .and => a &&& b
    | .or => a ||| b
    | .xor => a ^^^ b
  (res, { z := some (decide (res = 0)), n := some false, h := some (decide (op = .and)), c := some false })

/-- The record of a rotate or shift: Z from the result, C the bit out (R168). -/
def shiftRec (res : Byte) (out : Bool) : FlagRec :=
  { z := some (decide (res = 0)), n := some false, h := some false, c := some out }

/-- A bit as the byte 0 or 1. -/
def bitByte (v : Bool) : Byte := if v then 1 else 0

/-- RLC (R168). -/
def rotRlc (v : Byte) : Byte × FlagRec :=
  let res := (v <<< 1) ||| bitByte (v.getLsbD 7)
  (res, shiftRec res (v.getLsbD 7))

/-- RRC (R168). -/
def rotRrc (v : Byte) : Byte × FlagRec :=
  let res := (v >>> 1) ||| (bitByte (v.getLsbD 0) <<< 7)
  (res, shiftRec res (v.getLsbD 0))

/-- RL (R168). -/
def rotRl (v : Byte) (cin : Bool) : Byte × FlagRec :=
  let res := (v <<< 1) ||| bitByte cin
  (res, shiftRec res (v.getLsbD 7))

/-- RR (R168). -/
def rotRr (v : Byte) (cin : Bool) : Byte × FlagRec :=
  let res := (v >>> 1) ||| (bitByte cin <<< 7)
  (res, shiftRec res (v.getLsbD 0))

/-- SLA (R168). -/
def shiftSla (v : Byte) : Byte × FlagRec :=
  let res := v <<< 1
  (res, shiftRec res (v.getLsbD 7))

/-- SRA: bit 7 kept (R168). -/
def shiftSra (v : Byte) : Byte × FlagRec :=
  let res := (v >>> 1) ||| (v &&& 0x80)
  (res, shiftRec res (v.getLsbD 0))

/-- SRL: bit 7 becomes 0 (R168). -/
def shiftSrl (v : Byte) : Byte × FlagRec :=
  let res := v >>> 1
  (res, shiftRec res (v.getLsbD 0))

/-- `swap(v)` (R169): C is cleared, no bit is shifted out. -/
def swapNibbles (v : Byte) : Byte × FlagRec :=
  let res := ((v &&& 0x0F) <<< 4) ||| (v >>> 4)
  (res, shiftRec res false)

/-- The record with Z forced to 0 of RLCA, RRCA, RLA and RRA (R167). -/
def forceZClear (r : Byte × FlagRec) : Byte × FlagRec := (r.1, { r.2 with z := some false })

/-- `bit(b, v)` (R170). -/
def bitFlags (b : Nat) (v : Byte) : FlagRec :=
  { z := some (!v.getLsbD b), n := some false, h := some true, c := none }

/-- DAA after an add (R171): the 0x60 test is made on the value before the 0x06 correction. -/
def daaAdd (a : Byte) (h c : Bool) : Byte × Bool :=
  let c' := c || decide (a.toNat > 0x99)
  let a' := if c' then a + 0x60 else a
  let a'' := if h || decide (lowNibble a' > 0x09) then a' + 0x06 else a'
  (a'', c')

/-- DAA after a subtract (R171): no magnitude check, C is never cleared. -/
def daaSub (a : Byte) (h c : Bool) : Byte × Bool :=
  let a' := if c then a - 0x60 else a
  let a'' := if h then a' - 0x06 else a'
  (a'', c)

/-- `daa(a, n, h, c)` (R171). -/
def daa (a : Byte) (n h c : Bool) : Byte × FlagRec :=
  let r := if n then daaSub a h c else daaAdd a h c
  (r.1, { z := some (decide (r.1 = 0)), n := none, h := some false, c := some r.2 })

/-- CPL's result and record (R172). -/
def cplOf (a : Byte) : Byte × FlagRec :=
  (a ^^^ 0xFF, { z := none, n := some true, h := some true, c := none })

/-- SCF's record (R172). -/
def scfRec : FlagRec := { z := none, n := some false, h := some false, c := some true }

/-- CCF's record (R172): H is cleared, C is the complement of the incoming C. -/
def ccfRec (c : Bool) : FlagRec := { z := none, n := some false, h := some false, c := some (!c) }

end Sys2Proof.Machine
end

