-- ==== Sys2Proof/Config.lean ====
section
/-! DEFINITION. The parameters the source leaves open (00_scope.md R8): plain data, with the spec's
defaults. They are fixed for a machine: no step writes them. -/

namespace Sys2Proof

/-- `ILLEGAL_POLICY` (R8, R421): what an undefined opcode does. -/
inductive IllegalPolicy where
  /-- The default: the core enters the locked run state (R396). -/
  | lock
  /-- The other named policy: a 1-byte no-op that reports `illegal` for that step (R421). -/
  | nop
deriving DecidableEq, Repr

/-- `RESET_PROFILE` (R8, R460, R461). -/
inductive ResetProfile where
  | dmgPostBoot
  | powerOn
deriving DecidableEq, Repr

/-- `CYCLE_UNIT` (R8, R470): the unit of the count a step reports. -/
inductive CycleUnit where
  | tCycles
  | mCycles
deriving DecidableEq, Repr

/-- The open parameters of R8. -/
structure Config where
  /-- `UNUSABLE_READ`: the byte every read of 0xFEA0–0xFEFF returns (R75). -/
  unusableRead : Byte
  illegalPolicy : IllegalPolicy
  resetProfile : ResetProfile
  cycleUnit : CycleUnit
deriving DecidableEq, Repr

/-- The defaults of R8. -/
def Config.default : Config :=
  { unusableRead := 0xFF, illegalPolicy := .lock, resetProfile := .dmgPostBoot, cycleUnit := .tCycles }

end Sys2Proof
end

