-- ==== Sys2Proof/Machine/State.lean ====
section
/-! DEFINITION. The machine's state (10_state.md R47) as plain data, the reasons a step can stop, and the
state after reset (R48). -/

namespace Sys2Proof.Machine

/-- Memory as a list of (address, byte) pairs in canonical form (Machine/Memory.lean, `Memory.wf`). -/
abbrev Memory := List Host.Cell

/-- The run state (R44). -/
inductive Run where
  | running
  | halted
  | stopped
  /-- `Locked(op, addr)`: an undefined opcode and its address (R396, R421). -/
  | locked (op : Byte) (addr : Word)
deriving DecidableEq, Repr

/-- `StepInput` (47_system.md R401): the lines the core reads during one step. -/
structure StepInput where
  /-- The interrupt controller's request, a vector. -/
  request : Option Word
  /-- At least one interrupt is both enabled and flagged. -/
  irqPending : Bool
  /-- STOP's wake-up condition. -/
  joypadWake : Bool
deriving DecidableEq, Repr

/-- The empty input. -/
def StepInput.empty : StepInput := { request := none, irqPending := false, joypadWake := false }

/-- `StepResult` (R401): what a step reports. -/
structure StepResult where
  cycles : Nat
  accepted : Bool
  reti : Bool
  illegal : Option (Byte × Word)
deriving DecidableEq, Repr

/-- No step has reported yet. -/
def StepResult.blank : StepResult := { cycles := 0, accepted := false, reti := false, illegal := none }

/-- The architectural state of R47, and the model's own fields `cfg` (R8), `inputs`, `input` and `out`
(R401; logs 3, 4 and 5). -/
structure State where
  a : Byte
  f : Byte
  b : Byte
  c : Byte
  d : Byte
  e : Byte
  h : Byte
  l : Byte
  sp : Word
  pc : Word
  ime : Bool
  eiPending : Bool
  haltBug : Bool
  run : Run
  mem : Memory
  /-- The model's own: the parameters of R8; no step writes them. -/
  cfg : Config
  /-- The model's own: the inputs of the steps to come, the next first; empty inputs follow the last. -/
  inputs : List StepInput
  /-- The model's own: the input of the step that is running. -/
  input : StepInput
  /-- The model's own: what the last step reported. -/
  out : StepResult
deriving DecidableEq, Repr

/-- The core has no fault: "Nothing in this core is `fault`" (93_implementation_defined.md §1; R420).
The type has no constructor, so nothing raises one. -/
inductive Fault where
deriving DecidableEq, Repr

/-- Why a step has no meaning. -/
inductive Refusal where
  /-- Raised only by an arm of `exec` whose instruction has no meaning yet; no arm does. Safe. -/
  | notModelled (mnemonic : String)
deriving DecidableEq, Repr

/-- What a meaning answers. -/
abbrev Res := Host.Outcome State Fault Refusal

/-- The machine right after reset: the table of R48 (profile `DMG_POST_BOOT`, R460), with no image
loaded (log 2), the default parameters (log 5) and no input waiting (log 3). -/
def State.reset : State :=
  { a := 0x01, f := 0xB0, b := 0x00, c := 0x13, d := 0x00, e := 0xD8, h := 0x01, l := 0x4D
    sp := 0xFFFE, pc := 0x0100, ime := false, eiPending := false, haltBug := false, run := .running
    mem := [], cfg := Config.default, inputs := [], input := StepInput.empty, out := StepResult.blank }

end Sys2Proof.Machine
end

