-- ==== Sys2Proof/Machine/Memory.lean ====
section
/-! DEFINITION. The bus of 20_memory.md: the cells, `map`, `read8` and `write8` over the canonical list,
and the loader's image. -/

namespace Sys2Proof.Machine

/-- What a cell that is not listed holds. DESIGN CHOICE (log 2): the spec leaves memory at reset to the
loader (R91); 0x00 is the fill of 95_test_vectors.md's start states. -/
def Memory.unlisted : Byte := 0x00

/-- The unusable range 0xFEA0–0xFEFF (R75). -/
def unusable (k : Nat) : Bool := decide (0xFEA0 ≤ k) && decide (k ≤ 0xFEFF)

/-- The echo range 0xE000–0xFDFF (R74). -/
def inEcho (k : Nat) : Bool := decide (0xE000 ≤ k) && decide (k ≤ 0xFDFF)

/-- `map(addr)`: the cell an access reaches (R72). -/
def mapAddr (a : Word) : Word := if inEcho a.toNat then a - 0x2000 else a

/-- A cell some access reaches: neither echo nor unusable (R71). -/
def Memory.reachable (k : Nat) : Bool := decide (k < 0x10000) && !inEcho k && !unusable k

/-- The cell `k`. -/
def Memory.get : Memory → Nat → Byte
  | [], _ => Memory.unlisted
  | (k', v) :: rest, k => if k = k' then v else Memory.get rest k

/-- The list without the cell `k`. -/
def Memory.without : Memory → Nat → Memory
  | [], _ => []
  | (k', v') :: rest, k => if k = k' then Memory.without rest k else (k', v') :: Memory.without rest k

/-- The list with a new cell `k` in its place in the order. -/
def Memory.place : Memory → Nat → Byte → Memory
  | [], k, v => [(k, v)]
  | (k', v') :: rest, k, v => if k < k' then (k, v) :: (k', v') :: rest else (k', v') :: Memory.place rest k v

/-- Store `v` in the cell `k`, keeping the list's order and leaving out a cell that holds the unlisted
value. -/
def Memory.set (m : Memory) (k : Nat) (v : Byte) : Memory :=
  if v = Memory.unlisted then m.without k else (m.without k).place k v

/-- The canonical form from `low` on: keys strictly rising, all reachable, none at the unlisted value. -/
def Memory.wfFrom : Nat → Memory → Bool
  | _, [] => true
  | low, (k, v) :: rest =>
    decide (low ≤ k) && Memory.reachable k && decide (v ≠ Memory.unlisted) && Memory.wfFrom (k + 1) rest

/-- The canonical form: equal memories are equal lists. -/
def Memory.wf (m : Memory) : Bool := Memory.wfFrom 0 m

/-- `read8(addr)` (R73); `sentinel` is `UNUSABLE_READ` (R75). -/
def Memory.read8 (m : Memory) (sentinel : Byte) (a : Word) : Byte :=
  if unusable a.toNat then sentinel else m.get (mapAddr a).toNat

/-- `write8(addr, v)` (R73). -/
def Memory.write8 (m : Memory) (a : Word) (v : Byte) : Memory :=
  if unusable a.toNat then m else m.set (mapAddr a).toNat v

/-- The cells of an image whose first byte lies at `k`. -/
def Memory.ofBytesAt : Nat → List Byte → Memory
  | _, [] => []
  | k, v :: rest =>
    if Memory.reachable k && decide (v ≠ Memory.unlisted) then (k, v) :: Memory.ofBytesAt (k + 1) rest
    else Memory.ofBytesAt (k + 1) rest

/-- The loader's image, its first byte at address 0 (R91): its bytes in the echo and unusable ranges are
never observed, so they are dropped (D17; log 16). -/
def Memory.ofImage (image : List Byte) : Memory := Memory.ofBytesAt 0 image

end Sys2Proof.Machine
end

