-- ==== Sys2Proof/Machine/Ops.lean ====
section
/-! DEFINITION. The named operations over registers, memory, the instruction stream and the stack
(00_scope.md R12–R16), what a step reports (47_system.md R401), and the one exception-like entry of the
core, interrupt dispatch (60_exceptions.md R431), with the return from it (46_control.md R369). -/

namespace Sys2Proof.Machine

namespace State

/-! ## Register pairs (10_state.md R31) and F (R33, R35) -/

def af (s : State) : Word := w16 s.a s.f
def bc (s : State) : Word := w16 s.b s.c
def de (s : State) : Word := w16 s.d s.e
def hl (s : State) : Word := w16 s.h s.l

/-- Every write to F stores `v AND 0xF0` (R33). -/
def setF (v : Byte) (s : State) : State := { s with f := maskF v }

/-- `AF <- v`, F masked (R31, R33). -/
def setAF (v : Word) (s : State) : State := { s with a := hi v, f := maskF (lo v) }

/-- `BC <- v`, both halves at once (R31, R34). -/
def setBC (v : Word) (s : State) : State := { s with b := hi v, c := lo v }

/-- `DE <- v` (R31, R34). -/
def setDE (v : Word) (s : State) : State := { s with d := hi v, e := lo v }

/-- `HL <- v` (R31, R34). -/
def setHL (v : Word) (s : State) : State := { s with h := hi v, l := lo v }

def flag (k : FlagKind) (s : State) : Bool := getFlag k s.f
def flagZ (s : State) : Bool := s.flag .zero
def flagN (s : State) : Bool := s.flag .subtract
def flagH (s : State) : Bool := s.flag .halfCarry
def flagC (s : State) : Bool := s.flag .carry

/-- "apply fl": write a flag record to F (40_flag_engine.md R160). -/
def applyFlags (fl : FlagRec) (s : State) : State := { s with f := fl.apply s.f }

/-- `A <- res; apply fl`. -/
def putA (r : Byte × FlagRec) (s : State) : State := ({ s with a := r.1 } : State).applyFlags r.2

/-! ## Memory (00_scope.md R13; 20_memory.md R73, R78) -/

/-- `MemRead(addr, 1)`. -/
def read8 (s : State) (addr : Word) : Byte := s.mem.read8 s.cfg.unusableRead addr

/-- `MemWrite(addr, 1, v)`. -/
def write8 (addr : Word) (v : Byte) (s : State) : State := { s with mem := s.mem.write8 addr v }

/-- `MemRead(addr, 2)`: little-endian, each byte through `read8`, the second address mod 2^16 (R78). -/
def read16 (s : State) (addr : Word) : Word := w16 (s.read8 (addr + 1)) (s.read8 addr)

/-- `MemWrite(addr, 2, v)`: the low byte first (R78, R79). -/
def write16 (addr : Word) (v : Word) (s : State) : State :=
  (s.write8 addr (lo v)).write8 (addr + 1) (hi v)

/-! ## The instruction stream (R14; 10_state.md R45) -/

/-- `fetch8()`: the byte at PC; PC advances by 1 mod 2^16, except that a set `halt_bug` is consumed
instead (R14, R45). -/
def fetch8 (s : State) : Byte × State :=
  (s.read8 s.pc, { s with pc := if s.haltBug then s.pc else s.pc + 1, haltBug := false })

/-- The state after `n` fetches: PC past the bytes, `halt_bug` consumed. -/
def passBytes : Nat → State → State
  | 0, s => s
  | n + 1, s => passBytes n s.fetch8.2

/-! ## The stack (R15) -/

/-- `push16(v)`: the high byte at SP-1, then the low byte at SP-2. -/
def push16 (v : Word) (s : State) : State :=
  let s1 := ({ s with sp := s.sp - 1 } : State).write8 (s.sp - 1) (hi v)
  ({ s1 with sp := s1.sp - 1 } : State).write8 (s1.sp - 1) (lo v)

/-- `pop16()`: the low byte at SP, the high byte at SP+1, then SP+2. -/
def pop16 (s : State) : Word × State :=
  let low := s.read8 s.sp
  let s1 : State := { s with sp := s.sp + 1 }
  let high := s1.read8 s1.sp
  (w16 high low, { s1 with sp := s1.sp + 1 })

end State

/-! ## Reporting (47_system.md R401; 70_reset_and_hazards.md R470) -/

/-- A count of T-cycles in the configured unit: every count is a multiple of 4 (R470). -/
def cyclesIn (u : CycleUnit) (t : Nat) : Nat :=
  match u with
  | .tCycles => t
  | .mCycles => t / 4

namespace State

/-- The step reports `t` T-cycles and no event. -/
def report (t : Nat) (s : State) : State :=
  { s with out := { cycles := cyclesIn s.cfg.cycleUnit t, accepted := false, reti := false, illegal := none } }

/-- The step reports `t` T-cycles and `accepted` (R401). -/
def reportAccepted (t : Nat) (s : State) : State :=
  { s with out := { cycles := cyclesIn s.cfg.cycleUnit t, accepted := true, reti := false, illegal := none } }

/-- `signal reti` in a step of `t` T-cycles (60_exceptions.md R433). -/
def reportReti (t : Nat) (s : State) : State :=
  { s with out := { cycles := cyclesIn s.cfg.cycleUnit t, accepted := false, reti := true, illegal := none } }

/-- The step reports `t` T-cycles and `illegal = (op, addr)` (60_exceptions.md R421). -/
def reportIllegal (t : Nat) (op : Byte) (addr : Word) (s : State) : State :=
  { s with out := { cycles := cyclesIn s.cfg.cycleUnit t, accepted := false, reti := false,
                    illegal := some (op, addr) } }

end State

/-- The end of an instruction of `t` T-cycles. -/
def finish (t : Nat) (s : State) : Res := .next (s.report t)

/-! ## The exception-like entry, the return, and the lock -/

namespace State

/-- Interrupt dispatch with vector `v` (60_exceptions.md R431): IME and `ei_pending` are cleared, a halted
core wakes, PC is pushed and becomes `v`; 20 cycles, `accepted`. Flags and `halt_bug` are untouched (D12). -/
def dispatchInterrupt (v : Word) (s : State) : State :=
  let s1 : State :=
    { s with ime := false, eiPending := false, run := if s.run = .halted then .running else s.run }
  ({ s1.push16 s1.pc with pc := v } : State).reportAccepted 20

/-- The return from an interrupt handler after RETI's fetch (46_control.md R369): PC is popped, IME is 1
at once, `ei_pending` is cleared; 16 cycles, the RETI event. -/
def returnFromInterrupt (s : State) : State :=
  ({ s.pop16.2 with pc := s.pop16.1, ime := true, eiPending := false } : State).reportReti 16

/-- `lock(op, addr)` with `addr` the opcode's own address (R396, R421): the fetch consumes `halt_bug`, PC is
put back, the run state becomes locked; 4 cycles, `illegal`. -/
def lockAtOpcode (op : Byte) (s : State) : State :=
  ({ s.passBytes 1 with pc := s.pc, run := .locked op s.pc } : State).reportIllegal 4 op s.pc

/-- The other policy of R421: a 1-byte, 4-cycle no-op that reports `illegal` for this step. -/
def skipOpcode (op : Byte) (s : State) : State :=
  (s.passBytes 1).reportIllegal 4 op s.pc

end State

end Sys2Proof.Machine
end

