-- ==== Sys2Proof/Syntax.lean ====
section
/-! DEFINITION. The operand names of 30_encoding.md R113–R117 and the instructions: one constructor per row of
opcode_table.json (512). A constructor's name is the row's source mnemonic, `m` standing for the parentheses
of a memory operand; its arguments are the bytes the encoding leaves free. The constructors that carry operand bytes
stand first (Lean's runtime asks it of a type this large); otherwise the table's order. -/

namespace Sys2Proof

/-- The registers of `R8[i]`, i ≠ 6 (R113). -/
inductive Reg8 where
  | b
  | c
  | d
  | e
  | h
  | l
  | a
deriving DecidableEq, Repr

/-- `R8[i]`: a register, or the memory byte at HL for i = 6 (R113). -/
inductive Operand8 where
  | reg (r : Reg8)
  | memHL
deriving DecidableEq, Repr

/-- `R16[p]` (R114). -/
inductive Reg16 where
  | bc
  | de
  | hl
  | sp
deriving DecidableEq, Repr

/-- `R16S[p]` of PUSH and POP (R115). -/
inductive Reg16S where
  | bc
  | de
  | hl
  | af
deriving DecidableEq, Repr

/-- The indirect operands of the accumulator loads and stores of block 0, column 2 (R118, R119). -/
inductive IndAddr where
  | bc
  | de
  | hlInc
  | hlDec
deriving DecidableEq, Repr

/-- The conditions (R116). -/
inductive Cond where
  | nz
  | z
  | nc
  | c
deriving DecidableEq, Repr

/-- The ALU operations, field `ooo` (43_alu8.md). -/
inductive AluOp where
  | add
  | adc
  | sub
  | sbc
  | and
  | xor
  | or
  | cp
deriving DecidableEq, Repr

/-- The operations of the CB block x = 0, field y (R112). -/
inductive RotOp where
  | rlc
  | rrc
  | rl
  | rr
  | sla
  | sra
  | swap
  | srl
deriving DecidableEq, Repr

/-- The eleven undefined primary opcodes (R122). -/
inductive UndefOp where
  | opD3
  | opDB
  | opDD
  | opE3
  | opE4
  | opEB
  | opEC
  | opED
  | opF4
  | opFC
  | opFD
deriving DecidableEq, Repr

/-- The instructions. An 8-bit argument is the raw byte 1; a 16-bit one is assembled from bytes 1 and 2 (R117). -/
inductive Instr where
  /-- 01: LD BC,d16. -/
  | ld_BC_d16 (v : Word)
  /-- 06: LD B,d8. -/
  | ld_B_d8 (n : Byte)
  /-- 08: LD (a16),SP. -/
  | ld_ma16_SP (a : Word)
  /-- 0E: LD C,d8. -/
  | ld_C_d8 (n : Byte)
  /-- 10: STOP; byte 1 is fetched and ignored (R392). -/
  | stop (ignored : Byte)
  /-- 11: LD DE,d16. -/
  | ld_DE_d16 (v : Word)
  /-- 16: LD D,d8. -/
  | ld_D_d8 (n : Byte)
  /-- 18: JR e8. -/
  | jr_e8 (e : Byte)
  /-- 1E: LD E,d8. -/
  | ld_E_d8 (n : Byte)
  /-- 20: JR NZ,e8. -/
  | jr_NZ_e8 (e : Byte)
  /-- 21: LD HL,d16. -/
  | ld_HL_d16 (v : Word)
  /-- 26: LD H,d8. -/
  | ld_H_d8 (n : Byte)
  /-- 28: JR Z,e8. -/
  | jr_Z_e8 (e : Byte)
  /-- 2E: LD L,d8. -/
  | ld_L_d8 (n : Byte)
  /-- 30: JR NC,e8. -/
  | jr_NC_e8 (e : Byte)
  /-- 31: LD SP,d16. -/
  | ld_SP_d16 (v : Word)
  /-- 36: LD (HL),d8. -/
  | ld_mHL_d8 (n : Byte)
  /-- 38: JR C,e8. -/
  | jr_C_e8 (e : Byte)
  /-- 3E: LD A,d8. -/
  | ld_A_d8 (n : Byte)
  /-- C2: JP NZ,a16. -/
  | jp_NZ_a16 (a : Word)
  /-- C3: JP a16. -/
  | jp_a16 (a : Word)
  /-- C4: CALL NZ,a16. -/
  | call_NZ_a16 (a : Word)
  /-- C6: ADD A,d8. -/
  | add_A_d8 (n : Byte)
  /-- CA: JP Z,a16. -/
  | jp_Z_a16 (a : Word)
  /-- CB: PREFIX CB, `xx` the CB opcode; not an instruction on its own (R395). -/
  | prefix_CB (xx : Byte)
  /-- CC: CALL Z,a16. -/
  | call_Z_a16 (a : Word)
  /-- CD: CALL a16. -/
  | call_a16 (a : Word)
  /-- CE: ADC A,d8. -/
  | adc_A_d8 (n : Byte)
  /-- D2: JP NC,a16. -/
  | jp_NC_a16 (a : Word)
  /-- D4: CALL NC,a16. -/
  | call_NC_a16 (a : Word)
  /-- D6: SUB A,d8. -/
  | sub_A_d8 (n : Byte)
  /-- DA: JP C,a16. -/
  | jp_C_a16 (a : Word)
  /-- DC: CALL C,a16. -/
  | call_C_a16 (a : Word)
  /-- DE: SBC A,d8. -/
  | sbc_A_d8 (n : Byte)
  /-- E0: LDH (a8),A. -/
  | ldh_ma8_A (n : Byte)
  /-- E6: AND A,d8. -/
  | and_A_d8 (n : Byte)
  /-- E8: ADD SP,e8. -/
  | add_SP_e8 (e : Byte)
  /-- EA: LD (a16),A. -/
  | ld_ma16_A (a : Word)
  /-- EE: XOR A,d8. -/
  | xor_A_d8 (n : Byte)
  /-- F0: LDH A,(a8). -/
  | ldh_A_ma8 (n : Byte)
  /-- F6: OR A,d8. -/
  | or_A_d8 (n : Byte)
  /-- F8: LD HL,SP+e8. -/
  | ld_HL_SPe8 (e : Byte)
  /-- FA: LD A,(a16). -/
  | ld_A_ma16 (a : Word)
  /-- FE: CP A,d8. -/
  | cp_A_d8 (n : Byte)
  /-- 00: NOP. -/
  | nop
  /-- 02: LD (BC),A. -/
  | ld_mBC_A
  /-- 03: INC BC. -/
  | inc_BC
  /-- 04: INC B. -/
  | inc_B
  /-- 05: DEC B. -/
  | dec_B
  /-- 07: RLCA. -/
  | rlca
  /-- 09: ADD HL,BC. -/
  | add_HL_BC
  /-- 0A: LD A,(BC). -/
  | ld_A_mBC
  /-- 0B: DEC BC. -/
  | dec_BC
  /-- 0C: INC C. -/
  | inc_C
  /-- 0D: DEC C. -/
  | dec_C
  /-- 0F: RRCA. -/
  | rrca
  /-- 12: LD (DE),A. -/
  | ld_mDE_A
  /-- 13: INC DE. -/
  | inc_DE
  /-- 14: INC D. -/
  | inc_D
  /-- 15: DEC D. -/
  | dec_D
  /-- 17: RLA. -/
  | rla
  /-- 19: ADD HL,DE. -/
  | add_HL_DE
  /-- 1A: LD A,(DE). -/
  | ld_A_mDE
  /-- 1B: DEC DE. -/
  | dec_DE
  /-- 1C: INC E. -/
  | inc_E
  /-- 1D: DEC E. -/
  | dec_E
  /-- 1F: RRA. -/
  | rra
  /-- 22: LD (HL+),A. -/
  | ld_mHLinc_A
  /-- 23: INC HL. -/
  | inc_HL
  /-- 24: INC H. -/
  | inc_H
  /-- 25: DEC H. -/
  | dec_H
  /-- 27: DAA. -/
  | daa
  /-- 29: ADD HL,HL. -/
  | add_HL_HL
  /-- 2A: LD A,(HL+). -/
  | ld_A_mHLinc
  /-- 2B: DEC HL. -/
  | dec_HL
  /-- 2C: INC L. -/
  | inc_L
  /-- 2D: DEC L. -/
  | dec_L
  /-- 2F: CPL. -/
  | cpl
  /-- 32: LD (HL-),A. -/
  | ld_mHLdec_A
  /-- 33: INC SP. -/
  | inc_SP
  /-- 34: INC (HL). -/
  | inc_mHL
  /-- 35: DEC (HL). -/
  | dec_mHL
  /-- 37: SCF. -/
  | scf
  /-- 39: ADD HL,SP. -/
  | add_HL_SP
  /-- 3A: LD A,(HL-). -/
  | ld_A_mHLdec
  /-- 3B: DEC SP. -/
  | dec_SP
  /-- 3C: INC A. -/
  | inc_A
  /-- 3D: DEC A. -/
  | dec_A
  /-- 3F: CCF. -/
  | ccf
  /-- 40: LD B,B. -/
  | ld_B_B
  /-- 41: LD B,C. -/
  | ld_B_C
  /-- 42: LD B,D. -/
  | ld_B_D
  /-- 43: LD B,E. -/
  | ld_B_E
  /-- 44: LD B,H. -/
  | ld_B_H
  /-- 45: LD B,L. -/
  | ld_B_L
  /-- 46: LD B,(HL). -/
  | ld_B_mHL
  /-- 47: LD B,A. -/
  | ld_B_A
  /-- 48: LD C,B. -/
  | ld_C_B
  /-- 49: LD C,C. -/
  | ld_C_C
  /-- 4A: LD C,D. -/
  | ld_C_D
  /-- 4B: LD C,E. -/
  | ld_C_E
  /-- 4C: LD C,H. -/
  | ld_C_H
  /-- 4D: LD C,L. -/
  | ld_C_L
  /-- 4E: LD C,(HL). -/
  | ld_C_mHL
  /-- 4F: LD C,A. -/
  | ld_C_A
  /-- 50: LD D,B. -/
  | ld_D_B
  /-- 51: LD D,C. -/
  | ld_D_C
  /-- 52: LD D,D. -/
  | ld_D_D
  /-- 53: LD D,E. -/
  | ld_D_E
  /-- 54: LD D,H. -/
  | ld_D_H
  /-- 55: LD D,L. -/
  | ld_D_L
  /-- 56: LD D,(HL). -/
  | ld_D_mHL
  /-- 57: LD D,A. -/
  | ld_D_A
  /-- 58: LD E,B. -/
  | ld_E_B
  /-- 59: LD E,C. -/
  | ld_E_C
  /-- 5A: LD E,D. -/
  | ld_E_D
  /-- 5B: LD E,E. -/
  | ld_E_E
  /-- 5C: LD E,H. -/
  | ld_E_H
  /-- 5D: LD E,L. -/
  | ld_E_L
  /-- 5E: LD E,(HL). -/
  | ld_E_mHL
  /-- 5F: LD E,A. -/
  | ld_E_A
  /-- 60: LD H,B. -/
  | ld_H_B
  /-- 61: LD H,C. -/
  | ld_H_C
  /-- 62: LD H,D. -/
  | ld_H_D
  /-- 63: LD H,E. -/
  | ld_H_E
  /-- 64: LD H,H. -/
  | ld_H_H
  /-- 65: LD H,L. -/
  | ld_H_L
  /-- 66: LD H,(HL). -/
  | ld_H_mHL
  /-- 67: LD H,A. -/
  | ld_H_A
  /-- 68: LD L,B. -/
  | ld_L_B
  /-- 69: LD L,C. -/
  | ld_L_C
  /-- 6A: LD L,D. -/
  | ld_L_D
  /-- 6B: LD L,E. -/
  | ld_L_E
  /-- 6C: LD L,H. -/
  | ld_L_H
  /-- 6D: LD L,L. -/
  | ld_L_L
  /-- 6E: LD L,(HL). -/
  | ld_L_mHL
  /-- 6F: LD L,A. -/
  | ld_L_A
  /-- 70: LD (HL),B. -/
  | ld_mHL_B
  /-- 71: LD (HL),C. -/
  | ld_mHL_C
  /-- 72: LD (HL),D. -/
  | ld_mHL_D
  /-- 73: LD (HL),E. -/
  | ld_mHL_E
  /-- 74: LD (HL),H. -/
  | ld_mHL_H
  /-- 75: LD (HL),L. -/
  | ld_mHL_L
  /-- 76: HALT. -/
  | halt
  /-- 77: LD (HL),A. -/
  | ld_mHL_A
  /-- 78: LD A,B. -/
  | ld_A_B
  /-- 79: LD A,C. -/
  | ld_A_C
  /-- 7A: LD A,D. -/
  | ld_A_D
  /-- 7B: LD A,E. -/
  | ld_A_E
  /-- 7C: LD A,H. -/
  | ld_A_H
  /-- 7D: LD A,L. -/
  | ld_A_L
  /-- 7E: LD A,(HL). -/
  | ld_A_mHL
  /-- 7F: LD A,A. -/
  | ld_A_A
  /-- 80: ADD A,B. -/
  | add_A_B
  /-- 81: ADD A,C. -/
  | add_A_C
  /-- 82: ADD A,D. -/
  | add_A_D
  /-- 83: ADD A,E. -/
  | add_A_E
  /-- 84: ADD A,H. -/
  | add_A_H
  /-- 85: ADD A,L. -/
  | add_A_L
  /-- 86: ADD A,(HL). -/
  | add_A_mHL
  /-- 87: ADD A,A. -/
  | add_A_A
  /-- 88: ADC A,B. -/
  | adc_A_B
  /-- 89: ADC A,C. -/
  | adc_A_C
  /-- 8A: ADC A,D. -/
  | adc_A_D
  /-- 8B: ADC A,E. -/
  | adc_A_E
  /-- 8C: ADC A,H. -/
  | adc_A_H
  /-- 8D: ADC A,L. -/
  | adc_A_L
  /-- 8E: ADC A,(HL). -/
  | adc_A_mHL
  /-- 8F: ADC A,A. -/
  | adc_A_A
  /-- 90: SUB A,B. -/
  | sub_A_B
  /-- 91: SUB A,C. -/
  | sub_A_C
  /-- 92: SUB A,D. -/
  | sub_A_D
  /-- 93: SUB A,E. -/
  | sub_A_E
  /-- 94: SUB A,H. -/
  | sub_A_H
  /-- 95: SUB A,L. -/
  | sub_A_L
  /-- 96: SUB A,(HL). -/
  | sub_A_mHL
  /-- 97: SUB A,A. -/
  | sub_A_A
  /-- 98: SBC A,B. -/
  | sbc_A_B
  /-- 99: SBC A,C. -/
  | sbc_A_C
  /-- 9A: SBC A,D. -/
  | sbc_A_D
  /-- 9B: SBC A,E. -/
  | sbc_A_E
  /-- 9C: SBC A,H. -/
  | sbc_A_H
  /-- 9D: SBC A,L. -/
  | sbc_A_L
  /-- 9E: SBC A,(HL). -/
  | sbc_A_mHL
  /-- 9F: SBC A,A. -/
  | sbc_A_A
  /-- A0: AND A,B. -/
  | and_A_B
  /-- A1: AND A,C. -/
  | and_A_C
  /-- A2: AND A,D. -/
  | and_A_D
  /-- A3: AND A,E. -/
  | and_A_E
  /-- A4: AND A,H. -/
  | and_A_H
  /-- A5: AND A,L. -/
  | and_A_L
  /-- A6: AND A,(HL). -/
  | and_A_mHL
  /-- A7: AND A,A. -/
  | and_A_A
  /-- A8: XOR A,B. -/
  | xor_A_B
  /-- A9: XOR A,C. -/
  | xor_A_C
  /-- AA: XOR A,D. -/
  | xor_A_D
  /-- AB: XOR A,E. -/
  | xor_A_E
  /-- AC: XOR A,H. -/
  | xor_A_H
  /-- AD: XOR A,L. -/
  | xor_A_L
  /-- AE: XOR A,(HL). -/
  | xor_A_mHL
  /-- AF: XOR A,A. -/
  | xor_A_A
  /-- B0: OR A,B. -/
  | or_A_B
  /-- B1: OR A,C. -/
  | or_A_C
  /-- B2: OR A,D. -/
  | or_A_D
  /-- B3: OR A,E. -/
  | or_A_E
  /-- B4: OR A,H. -/
  | or_A_H
  /-- B5: OR A,L. -/
  | or_A_L
  /-- B6: OR A,(HL). -/
  | or_A_mHL
  /-- B7: OR A,A. -/
  | or_A_A
  /-- B8: CP A,B. -/
  | cp_A_B
  /-- B9: CP A,C. -/
  | cp_A_C
  /-- BA: CP A,D. -/
  | cp_A_D
  /-- BB: CP A,E. -/
  | cp_A_E
  /-- BC: CP A,H. -/
  | cp_A_H
  /-- BD: CP A,L. -/
  | cp_A_L
  /-- BE: CP A,(HL). -/
  | cp_A_mHL
  /-- BF: CP A,A. -/
  | cp_A_A
  /-- C0: RET NZ. -/
  | ret_NZ
  /-- C1: POP BC. -/
  | pop_BC
  /-- C5: PUSH BC. -/
  | push_BC
  /-- C7: RST 0x00. -/
  | rst_00
  /-- C8: RET Z. -/
  | ret_Z
  /-- C9: RET. -/
  | ret
  /-- CF: RST 0x08. -/
  | rst_08
  /-- D0: RET NC. -/
  | ret_NC
  /-- D1: POP DE. -/
  | pop_DE
  /-- D3: undefined opcode (R396). -/
  | undef_D3
  /-- D5: PUSH DE. -/
  | push_DE
  /-- D7: RST 0x10. -/
  | rst_10
  /-- D8: RET C. -/
  | ret_C
  /-- D9: RETI. -/
  | reti
  /-- DB: undefined opcode (R396). -/
  | undef_DB
  /-- DD: undefined opcode (R396). -/
  | undef_DD
  /-- DF: RST 0x18. -/
  | rst_18
  /-- E1: POP HL. -/
  | pop_HL
  /-- E2: LDH (C),A. -/
  | ldh_mC_A
  /-- E3: undefined opcode (R396). -/
  | undef_E3
  /-- E4: undefined opcode (R396). -/
  | undef_E4
  /-- E5: PUSH HL. -/
  | push_HL
  /-- E7: RST 0x20. -/
  | rst_20
  /-- E9: JP HL. -/
  | jp_HL
  /-- EB: undefined opcode (R396). -/
  | undef_EB
  /-- EC: undefined opcode (R396). -/
  | undef_EC
  /-- ED: undefined opcode (R396). -/
  | undef_ED
  /-- EF: RST 0x28. -/
  | rst_28
  /-- F1: POP AF. -/
  | pop_AF
  /-- F2: LDH A,(C). -/
  | ldh_A_mC
  /-- F3: DI. -/
  | di
  /-- F4: undefined opcode (R396). -/
  | undef_F4
  /-- F5: PUSH AF. -/
  | push_AF
  /-- F7: RST 0x30. -/
  | rst_30
  /-- F9: LD SP,HL. -/
  | ld_SP_HL
  /-- FB: EI. -/
  | ei
  /-- FC: undefined opcode (R396). -/
  | undef_FC
  /-- FD: undefined opcode (R396). -/
  | undef_FD
  /-- FF: RST 0x38. -/
  | rst_38
  /-- CB 00: RLC B. -/
  | rlc_B
  /-- CB 01: RLC C. -/
  | rlc_C
  /-- CB 02: RLC D. -/
  | rlc_D
  /-- CB 03: RLC E. -/
  | rlc_E
  /-- CB 04: RLC H. -/
  | rlc_H
  /-- CB 05: RLC L. -/
  | rlc_L
  /-- CB 06: RLC (HL). -/
  | rlc_mHL
  /-- CB 07: RLC A. -/
  | rlc_A
  /-- CB 08: RRC B. -/
  | rrc_B
  /-- CB 09: RRC C. -/
  | rrc_C
  /-- CB 0A: RRC D. -/
  | rrc_D
  /-- CB 0B: RRC E. -/
  | rrc_E
  /-- CB 0C: RRC H. -/
  | rrc_H
  /-- CB 0D: RRC L. -/
  | rrc_L
  /-- CB 0E: RRC (HL). -/
  | rrc_mHL
  /-- CB 0F: RRC A. -/
  | rrc_A
  /-- CB 10: RL B. -/
  | rl_B
  /-- CB 11: RL C. -/
  | rl_C
  /-- CB 12: RL D. -/
  | rl_D
  /-- CB 13: RL E. -/
  | rl_E
  /-- CB 14: RL H. -/
  | rl_H
  /-- CB 15: RL L. -/
  | rl_L
  /-- CB 16: RL (HL). -/
  | rl_mHL
  /-- CB 17: RL A. -/
  | rl_A
  /-- CB 18: RR B. -/
  | rr_B
  /-- CB 19: RR C. -/
  | rr_C
  /-- CB 1A: RR D. -/
  | rr_D
  /-- CB 1B: RR E. -/
  | rr_E
  /-- CB 1C: RR H. -/
  | rr_H
  /-- CB 1D: RR L. -/
  | rr_L
  /-- CB 1E: RR (HL). -/
  | rr_mHL
  /-- CB 1F: RR A. -/
  | rr_A
  /-- CB 20: SLA B. -/
  | sla_B
  /-- CB 21: SLA C. -/
  | sla_C
  /-- CB 22: SLA D. -/
  | sla_D
  /-- CB 23: SLA E. -/
  | sla_E
  /-- CB 24: SLA H. -/
  | sla_H
  /-- CB 25: SLA L. -/
  | sla_L
  /-- CB 26: SLA (HL). -/
  | sla_mHL
  /-- CB 27: SLA A. -/
  | sla_A
  /-- CB 28: SRA B. -/
  | sra_B
  /-- CB 29: SRA C. -/
  | sra_C
  /-- CB 2A: SRA D. -/
  | sra_D
  /-- CB 2B: SRA E. -/
  | sra_E
  /-- CB 2C: SRA H. -/
  | sra_H
  /-- CB 2D: SRA L. -/
  | sra_L
  /-- CB 2E: SRA (HL). -/
  | sra_mHL
  /-- CB 2F: SRA A. -/
  | sra_A
  /-- CB 30: SWAP B. -/
  | swap_B
  /-- CB 31: SWAP C. -/
  | swap_C
  /-- CB 32: SWAP D. -/
  | swap_D
  /-- CB 33: SWAP E. -/
  | swap_E
  /-- CB 34: SWAP H. -/
  | swap_H
  /-- CB 35: SWAP L. -/
  | swap_L
  /-- CB 36: SWAP (HL). -/
  | swap_mHL
  /-- CB 37: SWAP A. -/
  | swap_A
  /-- CB 38: SRL B. -/
  | srl_B
  /-- CB 39: SRL C. -/
  | srl_C
  /-- CB 3A: SRL D. -/
  | srl_D
  /-- CB 3B: SRL E. -/
  | srl_E
  /-- CB 3C: SRL H. -/
  | srl_H
  /-- CB 3D: SRL L. -/
  | srl_L
  /-- CB 3E: SRL (HL). -/
  | srl_mHL
  /-- CB 3F: SRL A. -/
  | srl_A
  /-- CB 40: BIT 0,B. -/
  | bit_0_B
  /-- CB 41: BIT 0,C. -/
  | bit_0_C
  /-- CB 42: BIT 0,D. -/
  | bit_0_D
  /-- CB 43: BIT 0,E. -/
  | bit_0_E
  /-- CB 44: BIT 0,H. -/
  | bit_0_H
  /-- CB 45: BIT 0,L. -/
  | bit_0_L
  /-- CB 46: BIT 0,(HL). -/
  | bit_0_mHL
  /-- CB 47: BIT 0,A. -/
  | bit_0_A
  /-- CB 48: BIT 1,B. -/
  | bit_1_B
  /-- CB 49: BIT 1,C. -/
  | bit_1_C
  /-- CB 4A: BIT 1,D. -/
  | bit_1_D
  /-- CB 4B: BIT 1,E. -/
  | bit_1_E
  /-- CB 4C: BIT 1,H. -/
  | bit_1_H
  /-- CB 4D: BIT 1,L. -/
  | bit_1_L
  /-- CB 4E: BIT 1,(HL). -/
  | bit_1_mHL
  /-- CB 4F: BIT 1,A. -/
  | bit_1_A
  /-- CB 50: BIT 2,B. -/
  | bit_2_B
  /-- CB 51: BIT 2,C. -/
  | bit_2_C
  /-- CB 52: BIT 2,D. -/
  | bit_2_D
  /-- CB 53: BIT 2,E. -/
  | bit_2_E
  /-- CB 54: BIT 2,H. -/
  | bit_2_H
  /-- CB 55: BIT 2,L. -/
  | bit_2_L
  /-- CB 56: BIT 2,(HL). -/
  | bit_2_mHL
  /-- CB 57: BIT 2,A. -/
  | bit_2_A
  /-- CB 58: BIT 3,B. -/
  | bit_3_B
  /-- CB 59: BIT 3,C. -/
  | bit_3_C
  /-- CB 5A: BIT 3,D. -/
  | bit_3_D
  /-- CB 5B: BIT 3,E. -/
  | bit_3_E
  /-- CB 5C: BIT 3,H. -/
  | bit_3_H
  /-- CB 5D: BIT 3,L. -/
  | bit_3_L
  /-- CB 5E: BIT 3,(HL). -/
  | bit_3_mHL
  /-- CB 5F: BIT 3,A. -/
  | bit_3_A
  /-- CB 60: BIT 4,B. -/
  | bit_4_B
  /-- CB 61: BIT 4,C. -/
  | bit_4_C
  /-- CB 62: BIT 4,D. -/
  | bit_4_D
  /-- CB 63: BIT 4,E. -/
  | bit_4_E
  /-- CB 64: BIT 4,H. -/
  | bit_4_H
  /-- CB 65: BIT 4,L. -/
  | bit_4_L
  /-- CB 66: BIT 4,(HL). -/
  | bit_4_mHL
  /-- CB 67: BIT 4,A. -/
  | bit_4_A
  /-- CB 68: BIT 5,B. -/
  | bit_5_B
  /-- CB 69: BIT 5,C. -/
  | bit_5_C
  /-- CB 6A: BIT 5,D. -/
  | bit_5_D
  /-- CB 6B: BIT 5,E. -/
  | bit_5_E
  /-- CB 6C: BIT 5,H. -/
  | bit_5_H
  /-- CB 6D: BIT 5,L. -/
  | bit_5_L
  /-- CB 6E: BIT 5,(HL). -/
  | bit_5_mHL
  /-- CB 6F: BIT 5,A. -/
  | bit_5_A
  /-- CB 70: BIT 6,B. -/
  | bit_6_B
  /-- CB 71: BIT 6,C. -/
  | bit_6_C
  /-- CB 72: BIT 6,D. -/
  | bit_6_D
  /-- CB 73: BIT 6,E. -/
  | bit_6_E
  /-- CB 74: BIT 6,H. -/
  | bit_6_H
  /-- CB 75: BIT 6,L. -/
  | bit_6_L
  /-- CB 76: BIT 6,(HL). -/
  | bit_6_mHL
  /-- CB 77: BIT 6,A. -/
  | bit_6_A
  /-- CB 78: BIT 7,B. -/
  | bit_7_B
  /-- CB 79: BIT 7,C. -/
  | bit_7_C
  /-- CB 7A: BIT 7,D. -/
  | bit_7_D
  /-- CB 7B: BIT 7,E. -/
  | bit_7_E
  /-- CB 7C: BIT 7,H. -/
  | bit_7_H
  /-- CB 7D: BIT 7,L. -/
  | bit_7_L
  /-- CB 7E: BIT 7,(HL). -/
  | bit_7_mHL
  /-- CB 7F: BIT 7,A. -/
  | bit_7_A
  /-- CB 80: RES 0,B. -/
  | res_0_B
  /-- CB 81: RES 0,C. -/
  | res_0_C
  /-- CB 82: RES 0,D. -/
  | res_0_D
  /-- CB 83: RES 0,E. -/
  | res_0_E
  /-- CB 84: RES 0,H. -/
  | res_0_H
  /-- CB 85: RES 0,L. -/
  | res_0_L
  /-- CB 86: RES 0,(HL). -/
  | res_0_mHL
  /-- CB 87: RES 0,A. -/
  | res_0_A
  /-- CB 88: RES 1,B. -/
  | res_1_B
  /-- CB 89: RES 1,C. -/
  | res_1_C
  /-- CB 8A: RES 1,D. -/
  | res_1_D
  /-- CB 8B: RES 1,E. -/
  | res_1_E
  /-- CB 8C: RES 1,H. -/
  | res_1_H
  /-- CB 8D: RES 1,L. -/
  | res_1_L
  /-- CB 8E: RES 1,(HL). -/
  | res_1_mHL
  /-- CB 8F: RES 1,A. -/
  | res_1_A
  /-- CB 90: RES 2,B. -/
  | res_2_B
  /-- CB 91: RES 2,C. -/
  | res_2_C
  /-- CB 92: RES 2,D. -/
  | res_2_D
  /-- CB 93: RES 2,E. -/
  | res_2_E
  /-- CB 94: RES 2,H. -/
  | res_2_H
  /-- CB 95: RES 2,L. -/
  | res_2_L
  /-- CB 96: RES 2,(HL). -/
  | res_2_mHL
  /-- CB 97: RES 2,A. -/
  | res_2_A
  /-- CB 98: RES 3,B. -/
  | res_3_B
  /-- CB 99: RES 3,C. -/
  | res_3_C
  /-- CB 9A: RES 3,D. -/
  | res_3_D
  /-- CB 9B: RES 3,E. -/
  | res_3_E
  /-- CB 9C: RES 3,H. -/
  | res_3_H
  /-- CB 9D: RES 3,L. -/
  | res_3_L
  /-- CB 9E: RES 3,(HL). -/
  | res_3_mHL
  /-- CB 9F: RES 3,A. -/
  | res_3_A
  /-- CB A0: RES 4,B. -/
  | res_4_B
  /-- CB A1: RES 4,C. -/
  | res_4_C
  /-- CB A2: RES 4,D. -/
  | res_4_D
  /-- CB A3: RES 4,E. -/
  | res_4_E
  /-- CB A4: RES 4,H. -/
  | res_4_H
  /-- CB A5: RES 4,L. -/
  | res_4_L
  /-- CB A6: RES 4,(HL). -/
  | res_4_mHL
  /-- CB A7: RES 4,A. -/
  | res_4_A
  /-- CB A8: RES 5,B. -/
  | res_5_B
  /-- CB A9: RES 5,C. -/
  | res_5_C
  /-- CB AA: RES 5,D. -/
  | res_5_D
  /-- CB AB: RES 5,E. -/
  | res_5_E
  /-- CB AC: RES 5,H. -/
  | res_5_H
  /-- CB AD: RES 5,L. -/
  | res_5_L
  /-- CB AE: RES 5,(HL). -/
  | res_5_mHL
  /-- CB AF: RES 5,A. -/
  | res_5_A
  /-- CB B0: RES 6,B. -/
  | res_6_B
  /-- CB B1: RES 6,C. -/
  | res_6_C
  /-- CB B2: RES 6,D. -/
  | res_6_D
  /-- CB B3: RES 6,E. -/
  | res_6_E
  /-- CB B4: RES 6,H. -/
  | res_6_H
  /-- CB B5: RES 6,L. -/
  | res_6_L
  /-- CB B6: RES 6,(HL). -/
  | res_6_mHL
  /-- CB B7: RES 6,A. -/
  | res_6_A
  /-- CB B8: RES 7,B. -/
  | res_7_B
  /-- CB B9: RES 7,C. -/
  | res_7_C
  /-- CB BA: RES 7,D. -/
  | res_7_D
  /-- CB BB: RES 7,E. -/
  | res_7_E
  /-- CB BC: RES 7,H. -/
  | res_7_H
  /-- CB BD: RES 7,L. -/
  | res_7_L
  /-- CB BE: RES 7,(HL). -/
  | res_7_mHL
  /-- CB BF: RES 7,A. -/
  | res_7_A
  /-- CB C0: SET 0,B. -/
  | set_0_B
  /-- CB C1: SET 0,C. -/
  | set_0_C
  /-- CB C2: SET 0,D. -/
  | set_0_D
  /-- CB C3: SET 0,E. -/
  | set_0_E
  /-- CB C4: SET 0,H. -/
  | set_0_H
  /-- CB C5: SET 0,L. -/
  | set_0_L
  /-- CB C6: SET 0,(HL). -/
  | set_0_mHL
  /-- CB C7: SET 0,A. -/
  | set_0_A
  /-- CB C8: SET 1,B. -/
  | set_1_B
  /-- CB C9: SET 1,C. -/
  | set_1_C
  /-- CB CA: SET 1,D. -/
  | set_1_D
  /-- CB CB: SET 1,E. -/
  | set_1_E
  /-- CB CC: SET 1,H. -/
  | set_1_H
  /-- CB CD: SET 1,L. -/
  | set_1_L
  /-- CB CE: SET 1,(HL). -/
  | set_1_mHL
  /-- CB CF: SET 1,A. -/
  | set_1_A
  /-- CB D0: SET 2,B. -/
  | set_2_B
  /-- CB D1: SET 2,C. -/
  | set_2_C
  /-- CB D2: SET 2,D. -/
  | set_2_D
  /-- CB D3: SET 2,E. -/
  | set_2_E
  /-- CB D4: SET 2,H. -/
  | set_2_H
  /-- CB D5: SET 2,L. -/
  | set_2_L
  /-- CB D6: SET 2,(HL). -/
  | set_2_mHL
  /-- CB D7: SET 2,A. -/
  | set_2_A
  /-- CB D8: SET 3,B. -/
  | set_3_B
  /-- CB D9: SET 3,C. -/
  | set_3_C
  /-- CB DA: SET 3,D. -/
  | set_3_D
  /-- CB DB: SET 3,E. -/
  | set_3_E
  /-- CB DC: SET 3,H. -/
  | set_3_H
  /-- CB DD: SET 3,L. -/
  | set_3_L
  /-- CB DE: SET 3,(HL). -/
  | set_3_mHL
  /-- CB DF: SET 3,A. -/
  | set_3_A
  /-- CB E0: SET 4,B. -/
  | set_4_B
  /-- CB E1: SET 4,C. -/
  | set_4_C
  /-- CB E2: SET 4,D. -/
  | set_4_D
  /-- CB E3: SET 4,E. -/
  | set_4_E
  /-- CB E4: SET 4,H. -/
  | set_4_H
  /-- CB E5: SET 4,L. -/
  | set_4_L
  /-- CB E6: SET 4,(HL). -/
  | set_4_mHL
  /-- CB E7: SET 4,A. -/
  | set_4_A
  /-- CB E8: SET 5,B. -/
  | set_5_B
  /-- CB E9: SET 5,C. -/
  | set_5_C
  /-- CB EA: SET 5,D. -/
  | set_5_D
  /-- CB EB: SET 5,E. -/
  | set_5_E
  /-- CB EC: SET 5,H. -/
  | set_5_H
  /-- CB ED: SET 5,L. -/
  | set_5_L
  /-- CB EE: SET 5,(HL). -/
  | set_5_mHL
  /-- CB EF: SET 5,A. -/
  | set_5_A
  /-- CB F0: SET 6,B. -/
  | set_6_B
  /-- CB F1: SET 6,C. -/
  | set_6_C
  /-- CB F2: SET 6,D. -/
  | set_6_D
  /-- CB F3: SET 6,E. -/
  | set_6_E
  /-- CB F4: SET 6,H. -/
  | set_6_H
  /-- CB F5: SET 6,L. -/
  | set_6_L
  /-- CB F6: SET 6,(HL). -/
  | set_6_mHL
  /-- CB F7: SET 6,A. -/
  | set_6_A
  /-- CB F8: SET 7,B. -/
  | set_7_B
  /-- CB F9: SET 7,C. -/
  | set_7_C
  /-- CB FA: SET 7,D. -/
  | set_7_D
  /-- CB FB: SET 7,E. -/
  | set_7_E
  /-- CB FC: SET 7,H. -/
  | set_7_H
  /-- CB FD: SET 7,L. -/
  | set_7_L
  /-- CB FE: SET 7,(HL). -/
  | set_7_mHL
  /-- CB FF: SET 7,A. -/
  | set_7_A
deriving DecidableEq, Repr

end Sys2Proof
end

