-- ==== Sys2Proof/Machine/Operands.lean ====
section
/-! DEFINITION. The operand forms of 30_encoding.md R113–R118: registers by field, the memory byte at HL, the
pairs, the conditions, and the effective addresses of 41_loads8.md R219. -/

namespace Sys2Proof.Machine

namespace State

/-- `R8[i]`, i ≠ 6, read (R113). -/
def reg8 (s : State) : Reg8 → Byte
  | .b => s.b
  | .c => s.c
  | .d => s.d
  | .e => s.e
  | .h => s.h
  | .l => s.l
  | .a => s.a

/-- `R8[i] <- v`, i ≠ 6 (R113). -/
def setReg8 (r : Reg8) (v : Byte) (s : State) : State :=
  match r with
  | .b => { s with b := v }
  | .c => { s with c := v }
  | .d => { s with d := v }
  | .e => { s with e := v }
  | .h => { s with h := v }
  | .l => { s with l := v }
  | .a => { s with a := v }

/-- `readR8` (R113). -/
def readR8 (s : State) : Operand8 → Byte
  | .reg r => s.reg8 r
  | .memHL => s.read8 s.hl

/-- `writeR8` (R113). -/
def writeR8 (o : Operand8) (v : Byte) (s : State) : State :=
  match o with
  | .reg r => s.setReg8 r v
  | .memHL => s.write8 s.hl v

/-- `R16[p]` read (R114). -/
def reg16 (s : State) : Reg16 → Word
  | .bc => s.bc
  | .de => s.de
  | .hl => s.hl
  | .sp => s.sp

/-- `R16[p] <- v` (R114). -/
def setReg16 (p : Reg16) (v : Word) (s : State) : State :=
  match p with
  | .bc => s.setBC v
  | .de => s.setDE v
  | .hl => s.setHL v
  | .sp => { s with sp := v }

/-- `R16S[p]` read (R115). -/
def reg16S (s : State) : Reg16S → Word
  | .bc => s.bc
  | .de => s.de
  | .hl => s.hl
  | .af => s.af

/-- `R16S[p] <- v`, F masked in AF (R115, R33). -/
def setReg16S (p : Reg16S) (v : Word) (s : State) : State :=
  match p with
  | .bc => s.setBC v
  | .de => s.setDE v
  | .hl => s.setHL v
  | .af => s.setAF v

/-- `cond(cc)` (R116). -/
def cond (s : State) : Cond → Bool
  | .nz => !s.flagZ
  | .z => s.flagZ
  | .nc => !s.flagC
  | .c => s.flagC

/-- The address of an indirect operand: HL's value before the update for (HL+) and (HL-) (R219). -/
def indAddr (s : State) : IndAddr → Word
  | .bc => s.bc
  | .de => s.de
  | .hlInc => s.hl
  | .hlDec => s.hl

/-- The update of the base after the access: HL ± 1 for (HL+) and (HL-), mod 2^16, none otherwise (R219). -/
def indUpdate (i : IndAddr) (s : State) : State :=
  match i with
  | .bc => s
  | .de => s
  | .hlInc => s.setHL (s.hl + 1)
  | .hlDec => s.setHL (s.hl - 1)

end State

/-- The high-page address `0xFF00 + zext16(n)` (20_memory.md R87; R117 `a8`). -/
def highPage (n : Byte) : Word := 0xFF00 + zext16 n

/-- The RST target `8·y` (R117; 46_control.md R370). -/
def rstTarget (t : Fin 8) : Word := BitVec.ofNat 16 (8 * t.val)

/-- The cycle count of a form that costs `r` on a register and `m` on (HL). -/
def cyclesOn (o : Operand8) (r m : Nat) : Nat :=
  match o with
  | .reg _ => r
  | .memHL => m

end Sys2Proof.Machine
end

