-- ==== Sys2Proof/Machine/Alu16.lean ====
section
/-! DEFINITION. 16-bit arithmetic (44_alu16.md). -/

namespace Sys2Proof.Machine

/-! ## Shared forms -/

/-- ADD HL,rr (R300). -/
def addHLPair (p : Reg16) (s : State) : Res :=
  let s1 := s.passBytes 1
  let r := add16 s1.hl (s1.reg16 p)
  finish 8 ((s1.setHL r.1).applyFlags r.2)

/-- INC rr: no flag (R301). -/
def incPair (p : Reg16) (s : State) : Res :=
  let s1 := s.passBytes 1
  finish 8 (s1.setReg16 p (s1.reg16 p + 1))

/-- DEC rr: no flag (R302). -/
def decPair (p : Reg16) (s : State) : Res :=
  let s1 := s.passBytes 1
  finish 8 (s1.setReg16 p (s1.reg16 p - 1))

/-- ADD SP,e8 (R303). -/
def addSPe (e : Byte) (s : State) : Res :=
  let s1 := s.passBytes 2
  finish 16 (({ s1 with sp := (addsp s1.sp e).1 } : State).applyFlags (addsp s1.sp e).2)

/-! ## Meanings, one per row -/

/-- INC BC (R301). -/
def execInc_BC (s : State) : Res := incPair .bc s

/-- ADD HL,BC (R300). -/
def execAdd_HL_BC (s : State) : Res := addHLPair .bc s

/-- DEC BC (R302). -/
def execDec_BC (s : State) : Res := decPair .bc s

/-- INC DE (R301). -/
def execInc_DE (s : State) : Res := incPair .de s

/-- ADD HL,DE (R300). -/
def execAdd_HL_DE (s : State) : Res := addHLPair .de s

/-- DEC DE (R302). -/
def execDec_DE (s : State) : Res := decPair .de s

/-- INC HL (R301). -/
def execInc_HL (s : State) : Res := incPair .hl s

/-- ADD HL,HL (R300). -/
def execAdd_HL_HL (s : State) : Res := addHLPair .hl s

/-- DEC HL (R302). -/
def execDec_HL (s : State) : Res := decPair .hl s

/-- INC SP (R301). -/
def execInc_SP (s : State) : Res := incPair .sp s

/-- ADD HL,SP (R300). -/
def execAdd_HL_SP (s : State) : Res := addHLPair .sp s

/-- DEC SP (R302). -/
def execDec_SP (s : State) : Res := decPair .sp s

/-- ADD SP,e8 (R303). -/
def execAdd_SP_e8 (e : Byte) (s : State) : Res := addSPe e s

end Sys2Proof.Machine
end

