-- ==== Sys2Proof/Machine/Alu8.lean ====
section
/-! DEFINITION. 8-bit arithmetic and logic (43_alu8.md). Every form reads the operand and A before it writes. -/

namespace Sys2Proof.Machine

/-! ## Shared forms -/

/-- One of the eight operations on A and `v` (R260–R283): CP leaves A unchanged (R163). -/
def aluOn (op : AluOp) (v : Byte) (s : State) : State :=
  match op with
  | .add => s.putA (add8 s.a v false)
  | .adc => s.putA (add8 s.a v s.flagC)
  | .sub => s.putA (sub8 s.a v false)
  | .sbc => s.putA (sub8 s.a v s.flagC)
  | .and => s.putA (logic .and s.a v)
  | .xor => s.putA (logic .xor s.a v)
  | .or => s.putA (logic .or s.a v)
  | .cp => s.applyFlags (sub8 s.a v false).2

/-- ALU A,r and ALU A,(HL). -/
def aluOperand (op : AluOp) (o : Operand8) (s : State) : Res :=
  let s1 := s.passBytes 1
  finish (cyclesOn o 4 8) (aluOn op (s1.readR8 o) s1)

/-- ALU A,d8. -/
def aluImm (op : AluOp) (n : Byte) (s : State) : Res :=
  finish 8 (aluOn op n (s.passBytes 2))

/-- INC r and INC (HL) (R284, R285). -/
def incOperand (o : Operand8) (s : State) : Res :=
  let s1 := s.passBytes 1
  let r := inc8 (s1.readR8 o)
  finish (cyclesOn o 4 12) ((s1.writeR8 o r.1).applyFlags r.2)

/-- DEC r and DEC (HL) (R286, R287). -/
def decOperand (o : Operand8) (s : State) : Res :=
  let s1 := s.passBytes 1
  let r := dec8 (s1.readR8 o)
  finish (cyclesOn o 4 12) ((s1.writeR8 o r.1).applyFlags r.2)

/-- DAA (R288). -/
def daaA (s : State) : Res :=
  let s1 := s.passBytes 1
  finish 4 (s1.putA (daa s1.a s1.flagN s1.flagH s1.flagC))

/-- CPL (R289). -/
def cplA (s : State) : Res :=
  let s1 := s.passBytes 1
  finish 4 (s1.putA (cplOf s1.a))

/-- SCF (R290). -/
def setCarry (s : State) : Res :=
  finish 4 ((s.passBytes 1).applyFlags scfRec)

/-- CCF (R291). -/
def complementCarry (s : State) : Res :=
  let s1 := s.passBytes 1
  finish 4 (s1.applyFlags (ccfRec s1.flagC))

/-! ## Meanings, one per row -/

/-- INC B (R284). -/
def execInc_B (s : State) : Res := incOperand (.reg .b) s

/-- DEC B (R286). -/
def execDec_B (s : State) : Res := decOperand (.reg .b) s

/-- INC C (R284). -/
def execInc_C (s : State) : Res := incOperand (.reg .c) s

/-- DEC C (R286). -/
def execDec_C (s : State) : Res := decOperand (.reg .c) s

/-- INC D (R284). -/
def execInc_D (s : State) : Res := incOperand (.reg .d) s

/-- DEC D (R286). -/
def execDec_D (s : State) : Res := decOperand (.reg .d) s

/-- INC E (R284). -/
def execInc_E (s : State) : Res := incOperand (.reg .e) s

/-- DEC E (R286). -/
def execDec_E (s : State) : Res := decOperand (.reg .e) s

/-- INC H (R284). -/
def execInc_H (s : State) : Res := incOperand (.reg .h) s

/-- DEC H (R286). -/
def execDec_H (s : State) : Res := decOperand (.reg .h) s

/-- DAA (R288). -/
def execDaa (s : State) : Res := daaA s

/-- INC L (R284). -/
def execInc_L (s : State) : Res := incOperand (.reg .l) s

/-- DEC L (R286). -/
def execDec_L (s : State) : Res := decOperand (.reg .l) s

/-- CPL (R289). -/
def execCpl (s : State) : Res := cplA s

/-- INC (HL) (R285). -/
def execInc_mHL (s : State) : Res := incOperand .memHL s

/-- DEC (HL) (R287). -/
def execDec_mHL (s : State) : Res := decOperand .memHL s

/-- SCF (R290). -/
def execScf (s : State) : Res := setCarry s

/-- INC A (R284). -/
def execInc_A (s : State) : Res := incOperand (.reg .a) s

/-- DEC A (R286). -/
def execDec_A (s : State) : Res := decOperand (.reg .a) s

/-- CCF (R291). -/
def execCcf (s : State) : Res := complementCarry s

/-- ADD A,B (R260). -/
def execAdd_A_B (s : State) : Res := aluOperand .add (.reg .b) s

/-- ADD A,C (R260). -/
def execAdd_A_C (s : State) : Res := aluOperand .add (.reg .c) s

/-- ADD A,D (R260). -/
def execAdd_A_D (s : State) : Res := aluOperand .add (.reg .d) s

/-- ADD A,E (R260). -/
def execAdd_A_E (s : State) : Res := aluOperand .add (.reg .e) s

/-- ADD A,H (R260). -/
def execAdd_A_H (s : State) : Res := aluOperand .add (.reg .h) s

/-- ADD A,L (R260). -/
def execAdd_A_L (s : State) : Res := aluOperand .add (.reg .l) s

/-- ADD A,(HL) (R261). -/
def execAdd_A_mHL (s : State) : Res := aluOperand .add .memHL s

/-- ADD A,A (R260). -/
def execAdd_A_A (s : State) : Res := aluOperand .add (.reg .a) s

/-- ADC A,B (R263). -/
def execAdc_A_B (s : State) : Res := aluOperand .adc (.reg .b) s

/-- ADC A,C (R263). -/
def execAdc_A_C (s : State) : Res := aluOperand .adc (.reg .c) s

/-- ADC A,D (R263). -/
def execAdc_A_D (s : State) : Res := aluOperand .adc (.reg .d) s

/-- ADC A,E (R263). -/
def execAdc_A_E (s : State) : Res := aluOperand .adc (.reg .e) s

/-- ADC A,H (R263). -/
def execAdc_A_H (s : State) : Res := aluOperand .adc (.reg .h) s

/-- ADC A,L (R263). -/
def execAdc_A_L (s : State) : Res := aluOperand .adc (.reg .l) s

/-- ADC A,(HL) (R264). -/
def execAdc_A_mHL (s : State) : Res := aluOperand .adc .memHL s

/-- ADC A,A (R263). -/
def execAdc_A_A (s : State) : Res := aluOperand .adc (.reg .a) s

/-- SUB A,B (R266). -/
def execSub_A_B (s : State) : Res := aluOperand .sub (.reg .b) s

/-- SUB A,C (R266). -/
def execSub_A_C (s : State) : Res := aluOperand .sub (.reg .c) s

/-- SUB A,D (R266). -/
def execSub_A_D (s : State) : Res := aluOperand .sub (.reg .d) s

/-- SUB A,E (R266). -/
def execSub_A_E (s : State) : Res := aluOperand .sub (.reg .e) s

/-- SUB A,H (R266). -/
def execSub_A_H (s : State) : Res := aluOperand .sub (.reg .h) s

/-- SUB A,L (R266). -/
def execSub_A_L (s : State) : Res := aluOperand .sub (.reg .l) s

/-- SUB A,(HL) (R267). -/
def execSub_A_mHL (s : State) : Res := aluOperand .sub .memHL s

/-- SUB A,A (R266). -/
def execSub_A_A (s : State) : Res := aluOperand .sub (.reg .a) s

/-- SBC A,B (R269). -/
def execSbc_A_B (s : State) : Res := aluOperand .sbc (.reg .b) s

/-- SBC A,C (R269). -/
def execSbc_A_C (s : State) : Res := aluOperand .sbc (.reg .c) s

/-- SBC A,D (R269). -/
def execSbc_A_D (s : State) : Res := aluOperand .sbc (.reg .d) s

/-- SBC A,E (R269). -/
def execSbc_A_E (s : State) : Res := aluOperand .sbc (.reg .e) s

/-- SBC A,H (R269). -/
def execSbc_A_H (s : State) : Res := aluOperand .sbc (.reg .h) s

/-- SBC A,L (R269). -/
def execSbc_A_L (s : State) : Res := aluOperand .sbc (.reg .l) s

/-- SBC A,(HL) (R270). -/
def execSbc_A_mHL (s : State) : Res := aluOperand .sbc .memHL s

/-- SBC A,A (R269). -/
def execSbc_A_A (s : State) : Res := aluOperand .sbc (.reg .a) s

/-- AND A,B (R272). -/
def execAnd_A_B (s : State) : Res := aluOperand .and (.reg .b) s

/-- AND A,C (R272). -/
def execAnd_A_C (s : State) : Res := aluOperand .and (.reg .c) s

/-- AND A,D (R272). -/
def execAnd_A_D (s : State) : Res := aluOperand .and (.reg .d) s

/-- AND A,E (R272). -/
def execAnd_A_E (s : State) : Res := aluOperand .and (.reg .e) s

/-- AND A,H (R272). -/
def execAnd_A_H (s : State) : Res := aluOperand .and (.reg .h) s

/-- AND A,L (R272). -/
def execAnd_A_L (s : State) : Res := aluOperand .and (.reg .l) s

/-- AND A,(HL) (R273). -/
def execAnd_A_mHL (s : State) : Res := aluOperand .and .memHL s

/-- AND A,A (R272). -/
def execAnd_A_A (s : State) : Res := aluOperand .and (.reg .a) s

/-- XOR A,B (R275). -/
def execXor_A_B (s : State) : Res := aluOperand .xor (.reg .b) s

/-- XOR A,C (R275). -/
def execXor_A_C (s : State) : Res := aluOperand .xor (.reg .c) s

/-- XOR A,D (R275). -/
def execXor_A_D (s : State) : Res := aluOperand .xor (.reg .d) s

/-- XOR A,E (R275). -/
def execXor_A_E (s : State) : Res := aluOperand .xor (.reg .e) s

/-- XOR A,H (R275). -/
def execXor_A_H (s : State) : Res := aluOperand .xor (.reg .h) s

/-- XOR A,L (R275). -/
def execXor_A_L (s : State) : Res := aluOperand .xor (.reg .l) s

/-- XOR A,(HL) (R276). -/
def execXor_A_mHL (s : State) : Res := aluOperand .xor .memHL s

/-- XOR A,A (R275). -/
def execXor_A_A (s : State) : Res := aluOperand .xor (.reg .a) s

/-- OR A,B (R278). -/
def execOr_A_B (s : State) : Res := aluOperand .or (.reg .b) s

/-- OR A,C (R278). -/
def execOr_A_C (s : State) : Res := aluOperand .or (.reg .c) s

/-- OR A,D (R278). -/
def execOr_A_D (s : State) : Res := aluOperand .or (.reg .d) s

/-- OR A,E (R278). -/
def execOr_A_E (s : State) : Res := aluOperand .or (.reg .e) s

/-- OR A,H (R278). -/
def execOr_A_H (s : State) : Res := aluOperand .or (.reg .h) s

/-- OR A,L (R278). -/
def execOr_A_L (s : State) : Res := aluOperand .or (.reg .l) s

/-- OR A,(HL) (R279). -/
def execOr_A_mHL (s : State) : Res := aluOperand .or .memHL s

/-- OR A,A (R278). -/
def execOr_A_A (s : State) : Res := aluOperand .or (.reg .a) s

/-- CP A,B (R281). -/
def execCp_A_B (s : State) : Res := aluOperand .cp (.reg .b) s

/-- CP A,C (R281). -/
def execCp_A_C (s : State) : Res := aluOperand .cp (.reg .c) s

/-- CP A,D (R281). -/
def execCp_A_D (s : State) : Res := aluOperand .cp (.reg .d) s

/-- CP A,E (R281). -/
def execCp_A_E (s : State) : Res := aluOperand .cp (.reg .e) s

/-- CP A,H (R281). -/
def execCp_A_H (s : State) : Res := aluOperand .cp (.reg .h) s

/-- CP A,L (R281). -/
def execCp_A_L (s : State) : Res := aluOperand .cp (.reg .l) s

/-- CP A,(HL) (R282). -/
def execCp_A_mHL (s : State) : Res := aluOperand .cp .memHL s

/-- CP A,A (R281). -/
def execCp_A_A (s : State) : Res := aluOperand .cp (.reg .a) s

/-- ADD A,d8 (R262). -/
def execAdd_A_d8 (n : Byte) (s : State) : Res := aluImm .add n s

/-- ADC A,d8 (R265). -/
def execAdc_A_d8 (n : Byte) (s : State) : Res := aluImm .adc n s

/-- SUB A,d8 (R268). -/
def execSub_A_d8 (n : Byte) (s : State) : Res := aluImm .sub n s

/-- SBC A,d8 (R271). -/
def execSbc_A_d8 (n : Byte) (s : State) : Res := aluImm .sbc n s

/-- AND A,d8 (R274). -/
def execAnd_A_d8 (n : Byte) (s : State) : Res := aluImm .and n s

/-- XOR A,d8 (R277). -/
def execXor_A_d8 (n : Byte) (s : State) : Res := aluImm .xor n s

/-- OR A,d8 (R280). -/
def execOr_A_d8 (n : Byte) (s : State) : Res := aluImm .or n s

/-- CP A,d8 (R283). -/
def execCp_A_d8 (n : Byte) (s : State) : Res := aluImm .cp n s

end Sys2Proof.Machine
end

