-- ==== Sys2Proof/Machine/Control.lean ====
section
/-! DEFINITION. Control transfer (46_control.md). No flag changes; a conditional form passes all its bytes
whether or not the condition holds. -/

namespace Sys2Proof.Machine

/-! ## Shared forms -/

/-- `PC <- a` (R360). -/
def jumpTo (a : Word) (s : State) : Res := finish 16 { s.passBytes 3 with pc := a }

/-- `if cond(cc) then PC <- a` (R361). -/
def jumpIf (cc : Cond) (a : Word) (s : State) : Res :=
  let s1 := s.passBytes 3
  if s1.cond cc then finish 16 { s1 with pc := a } else finish 12 s1

/-- `PC <- HL` (R362). -/
def jumpHL (s : State) : Res :=
  let s1 := s.passBytes 1
  finish 4 { s1 with pc := s1.hl }

/-- `PC <- (PC + sext16(e)) mod 2^16` (R363). -/
def jumpRel (e : Byte) (s : State) : Res :=
  let s1 := s.passBytes 2
  finish 12 { s1 with pc := s1.pc + sext16 e }

/-- `if cond(cc) then PC <- (PC + sext16(e)) mod 2^16` (R364). -/
def jumpRelIf (cc : Cond) (e : Byte) (s : State) : Res :=
  let s1 := s.passBytes 2
  if s1.cond cc then finish 12 { s1 with pc := s1.pc + sext16 e } else finish 8 s1

/-- `push16(PC); PC <- a` (R365). -/
def callTo (a : Word) (s : State) : Res :=
  let s1 := s.passBytes 3
  finish 24 { s1.push16 s1.pc with pc := a }

/-- `if cond(cc) then (push16(PC); PC <- a)` (R366). -/
def callIf (cc : Cond) (a : Word) (s : State) : Res :=
  let s1 := s.passBytes 3
  if s1.cond cc then finish 24 { s1.push16 s1.pc with pc := a } else finish 12 s1

/-- `PC <- pop16()` (R367). -/
def returnFrom (s : State) : Res :=
  let s1 := s.passBytes 1
  finish 16 { s1.pop16.2 with pc := s1.pop16.1 }

/-- `if cond(cc) then PC <- pop16()` (R368). -/
def returnIf (cc : Cond) (s : State) : Res :=
  let s1 := s.passBytes 1
  if s1.cond cc then finish 20 { s1.pop16.2 with pc := s1.pop16.1 } else finish 8 s1

/-- RETI (R369). -/
def returnInterrupt (s : State) : Res := .next (s.passBytes 1).returnFromInterrupt

/-- `push16(PC); PC <- zext16(y << 3)` (R370). -/
def restart (t : Fin 8) (s : State) : Res :=
  let s1 := s.passBytes 1
  finish 16 { s1.push16 s1.pc with pc := rstTarget t }

/-! ## Meanings, one per row -/

/-- JR e8 (R363). -/
def execJr_e8 (e : Byte) (s : State) : Res := jumpRel e s

/-- JR NZ,e8 (R364). -/
def execJr_NZ_e8 (e : Byte) (s : State) : Res := jumpRelIf .nz e s

/-- JR Z,e8 (R364). -/
def execJr_Z_e8 (e : Byte) (s : State) : Res := jumpRelIf .z e s

/-- JR NC,e8 (R364). -/
def execJr_NC_e8 (e : Byte) (s : State) : Res := jumpRelIf .nc e s

/-- JR C,e8 (R364). -/
def execJr_C_e8 (e : Byte) (s : State) : Res := jumpRelIf .c e s

/-- RET NZ (R368). -/
def execRet_NZ (s : State) : Res := returnIf .nz s

/-- JP NZ,a16 (R361). -/
def execJp_NZ_a16 (a : Word) (s : State) : Res := jumpIf .nz a s

/-- JP a16 (R360). -/
def execJp_a16 (a : Word) (s : State) : Res := jumpTo a s

/-- CALL NZ,a16 (R366). -/
def execCall_NZ_a16 (a : Word) (s : State) : Res := callIf .nz a s

/-- RST 0x00 (R370). -/
def execRst_00 (s : State) : Res := restart 0 s

/-- RET Z (R368). -/
def execRet_Z (s : State) : Res := returnIf .z s

/-- RET (R367). -/
def execRet (s : State) : Res := returnFrom s

/-- JP Z,a16 (R361). -/
def execJp_Z_a16 (a : Word) (s : State) : Res := jumpIf .z a s

/-- CALL Z,a16 (R366). -/
def execCall_Z_a16 (a : Word) (s : State) : Res := callIf .z a s

/-- CALL a16 (R365). -/
def execCall_a16 (a : Word) (s : State) : Res := callTo a s

/-- RST 0x08 (R370). -/
def execRst_08 (s : State) : Res := restart 1 s

/-- RET NC (R368). -/
def execRet_NC (s : State) : Res := returnIf .nc s

/-- JP NC,a16 (R361). -/
def execJp_NC_a16 (a : Word) (s : State) : Res := jumpIf .nc a s

/-- CALL NC,a16 (R366). -/
def execCall_NC_a16 (a : Word) (s : State) : Res := callIf .nc a s

/-- RST 0x10 (R370). -/
def execRst_10 (s : State) : Res := restart 2 s

/-- RET C (R368). -/
def execRet_C (s : State) : Res := returnIf .c s

/-- RETI (R369). -/
def execReti (s : State) : Res := returnInterrupt s

/-- JP C,a16 (R361). -/
def execJp_C_a16 (a : Word) (s : State) : Res := jumpIf .c a s

/-- CALL C,a16 (R366). -/
def execCall_C_a16 (a : Word) (s : State) : Res := callIf .c a s

/-- RST 0x18 (R370). -/
def execRst_18 (s : State) : Res := restart 3 s

/-- RST 0x20 (R370). -/
def execRst_20 (s : State) : Res := restart 4 s

/-- JP HL (R362). -/
def execJp_HL (s : State) : Res := jumpHL s

/-- RST 0x28 (R370). -/
def execRst_28 (s : State) : Res := restart 5 s

/-- RST 0x30 (R370). -/
def execRst_30 (s : State) : Res := restart 6 s

/-- RST 0x38 (R370). -/
def execRst_38 (s : State) : Res := restart 7 s

end Sys2Proof.Machine
end

