-- ==== Sys2Proof/Machine/Loads16.lean ====
section
/-! DEFINITION. The 16-bit loads and the stack (42_loads16_stack.md). -/

namespace Sys2Proof.Machine

/-! ## Shared forms -/

/-- `R16[p] <- d16` (R240). -/
def ldReg16Imm (p : Reg16) (v : Word) (s : State) : Res :=
  finish 12 ((s.passBytes 3).setReg16 p v)

/-- `MemWrite(a, 2, SP)` (R241). -/
def ldMemSP (a : Word) (s : State) : Res :=
  let s1 := s.passBytes 3
  finish 20 (s1.write16 a s1.sp)

/-- `SP <- HL` (R242). -/
def ldSPHL (s : State) : Res :=
  let s1 := s.passBytes 1
  finish 8 { s1 with sp := s1.hl }

/-- `HL <- SP + e8`, flags of `addsp` (R243). -/
def ldHLSPe (e : Byte) (s : State) : Res :=
  let s1 := s.passBytes 2
  finish 12 ((s1.setHL (addsp s1.sp e).1).applyFlags (addsp s1.sp e).2)

/-- PUSH rr (R244). -/
def pushPair (p : Reg16S) (s : State) : Res :=
  let s1 := s.passBytes 1
  finish 16 (s1.push16 (s1.reg16S p))

/-- POP rr (R245). -/
def popPair (p : Reg16S) (s : State) : Res :=
  let s1 := s.passBytes 1
  finish 12 (s1.pop16.2.setReg16S p s1.pop16.1)

/-! ## Meanings, one per row -/

/-- LD BC,d16 (R240). -/
def execLd_BC_d16 (v : Word) (s : State) : Res := ldReg16Imm .bc v s

/-- LD (a16),SP (R241). -/
def execLd_ma16_SP (a : Word) (s : State) : Res := ldMemSP a s

/-- LD DE,d16 (R240). -/
def execLd_DE_d16 (v : Word) (s : State) : Res := ldReg16Imm .de v s

/-- LD HL,d16 (R240). -/
def execLd_HL_d16 (v : Word) (s : State) : Res := ldReg16Imm .hl v s

/-- LD SP,d16 (R240). -/
def execLd_SP_d16 (v : Word) (s : State) : Res := ldReg16Imm .sp v s

/-- POP BC (R245). -/
def execPop_BC (s : State) : Res := popPair .bc s

/-- PUSH BC (R244). -/
def execPush_BC (s : State) : Res := pushPair .bc s

/-- POP DE (R245). -/
def execPop_DE (s : State) : Res := popPair .de s

/-- PUSH DE (R244). -/
def execPush_DE (s : State) : Res := pushPair .de s

/-- POP HL (R245). -/
def execPop_HL (s : State) : Res := popPair .hl s

/-- PUSH HL (R244). -/
def execPush_HL (s : State) : Res := pushPair .hl s

/-- POP AF (R245). -/
def execPop_AF (s : State) : Res := popPair .af s

/-- PUSH AF (R244). -/
def execPush_AF (s : State) : Res := pushPair .af s

/-- LD HL,SP+e8 (R243). -/
def execLd_HL_SPe8 (e : Byte) (s : State) : Res := ldHLSPe e s

/-- LD SP,HL (R242). -/
def execLd_SP_HL (s : State) : Res := ldSPHL s

end Sys2Proof.Machine
end

