-- ==== Sys2Proof/Machine/Loads8.lean ====
section
/-! DEFINITION. The 8-bit loads and stores (41_loads8.md). A meaning starts with PC at the instruction's
address; `passBytes` moves PC past its bytes (10_state.md R37), so the effect sees PC as the rules do. No load
writes a flag. -/

namespace Sys2Proof.Machine

/-! ## Shared forms -/

/-- `R8[d] <- R8[s]` (R200). -/
def ldRegReg (dst src : Reg8) (s : State) : Res :=
  let s1 := s.passBytes 1
  finish 4 (s1.setReg8 dst (s1.reg8 src))

/-- `R8[d] <- MemRead(HL, 1)` (R202). -/
def ldRegMem (dst : Reg8) (s : State) : Res :=
  let s1 := s.passBytes 1
  finish 8 (s1.setReg8 dst (s1.read8 s1.hl))

/-- `MemWrite(HL, 1, R8[s])` (R203). -/
def ldMemReg (src : Reg8) (s : State) : Res :=
  let s1 := s.passBytes 1
  finish 8 (s1.write8 s1.hl (s1.reg8 src))

/-- `R8[d] <- d8` and `MemWrite(HL, 1, d8)` (R201, R204). -/
def ldImm (o : Operand8) (n : Byte) (s : State) : Res :=
  finish (cyclesOn o 8 12) ((s.passBytes 2).writeR8 o n)

/-- `A <- MemRead(addr, 1)`, then the base's update (R205, R206, R215, R216). -/
def ldAInd (i : IndAddr) (s : State) : Res :=
  let s1 := s.passBytes 1
  finish 8 (({ s1 with a := s1.read8 (s1.indAddr i) } : State).indUpdate i)

/-- `MemWrite(addr, 1, A)`, then the base's update (R207, R208, R217, R218). -/
def ldIndA (i : IndAddr) (s : State) : Res :=
  let s1 := s.passBytes 1
  finish 8 ((s1.write8 (s1.indAddr i) s1.a).indUpdate i)

/-- `A <- MemRead(addr, 1)` at an address the instruction's `len` bytes give (R209, R211, R213). -/
def ldAFrom (len cycles : Nat) (addr : Word) (s : State) : Res :=
  let s1 := s.passBytes len
  finish cycles { s1 with a := s1.read8 addr }

/-- `MemWrite(addr, 1, A)` (R210, R212, R214). -/
def ldAInto (len cycles : Nat) (addr : Word) (s : State) : Res :=
  let s1 := s.passBytes len
  finish cycles (s1.write8 addr s1.a)

/-! ## Meanings, one per row -/

/-- LD (BC),A (R207). -/
def execLd_mBC_A (s : State) : Res := ldIndA .bc s

/-- LD B,d8 (R201). -/
def execLd_B_d8 (n : Byte) (s : State) : Res := ldImm (.reg .b) n s

/-- LD A,(BC) (R205). -/
def execLd_A_mBC (s : State) : Res := ldAInd .bc s

/-- LD C,d8 (R201). -/
def execLd_C_d8 (n : Byte) (s : State) : Res := ldImm (.reg .c) n s

/-- LD (DE),A (R208). -/
def execLd_mDE_A (s : State) : Res := ldIndA .de s

/-- LD D,d8 (R201). -/
def execLd_D_d8 (n : Byte) (s : State) : Res := ldImm (.reg .d) n s

/-- LD A,(DE) (R206). -/
def execLd_A_mDE (s : State) : Res := ldAInd .de s

/-- LD E,d8 (R201). -/
def execLd_E_d8 (n : Byte) (s : State) : Res := ldImm (.reg .e) n s

/-- LD (HL+),A (R217). -/
def execLd_mHLinc_A (s : State) : Res := ldIndA .hlInc s

/-- LD H,d8 (R201). -/
def execLd_H_d8 (n : Byte) (s : State) : Res := ldImm (.reg .h) n s

/-- LD A,(HL+) (R215). -/
def execLd_A_mHLinc (s : State) : Res := ldAInd .hlInc s

/-- LD L,d8 (R201). -/
def execLd_L_d8 (n : Byte) (s : State) : Res := ldImm (.reg .l) n s

/-- LD (HL-),A (R218). -/
def execLd_mHLdec_A (s : State) : Res := ldIndA .hlDec s

/-- LD (HL),d8 (R204). -/
def execLd_mHL_d8 (n : Byte) (s : State) : Res := ldImm .memHL n s

/-- LD A,(HL-) (R216). -/
def execLd_A_mHLdec (s : State) : Res := ldAInd .hlDec s

/-- LD A,d8 (R201). -/
def execLd_A_d8 (n : Byte) (s : State) : Res := ldImm (.reg .a) n s

/-- LD B,B (R200). -/
def execLd_B_B (s : State) : Res := ldRegReg .b .b s

/-- LD B,C (R200). -/
def execLd_B_C (s : State) : Res := ldRegReg .b .c s

/-- LD B,D (R200). -/
def execLd_B_D (s : State) : Res := ldRegReg .b .d s

/-- LD B,E (R200). -/
def execLd_B_E (s : State) : Res := ldRegReg .b .e s

/-- LD B,H (R200). -/
def execLd_B_H (s : State) : Res := ldRegReg .b .h s

/-- LD B,L (R200). -/
def execLd_B_L (s : State) : Res := ldRegReg .b .l s

/-- LD B,(HL) (R202). -/
def execLd_B_mHL (s : State) : Res := ldRegMem .b s

/-- LD B,A (R200). -/
def execLd_B_A (s : State) : Res := ldRegReg .b .a s

/-- LD C,B (R200). -/
def execLd_C_B (s : State) : Res := ldRegReg .c .b s

/-- LD C,C (R200). -/
def execLd_C_C (s : State) : Res := ldRegReg .c .c s

/-- LD C,D (R200). -/
def execLd_C_D (s : State) : Res := ldRegReg .c .d s

/-- LD C,E (R200). -/
def execLd_C_E (s : State) : Res := ldRegReg .c .e s

/-- LD C,H (R200). -/
def execLd_C_H (s : State) : Res := ldRegReg .c .h s

/-- LD C,L (R200). -/
def execLd_C_L (s : State) : Res := ldRegReg .c .l s

/-- LD C,(HL) (R202). -/
def execLd_C_mHL (s : State) : Res := ldRegMem .c s

/-- LD C,A (R200). -/
def execLd_C_A (s : State) : Res := ldRegReg .c .a s

/-- LD D,B (R200). -/
def execLd_D_B (s : State) : Res := ldRegReg .d .b s

/-- LD D,C (R200). -/
def execLd_D_C (s : State) : Res := ldRegReg .d .c s

/-- LD D,D (R200). -/
def execLd_D_D (s : State) : Res := ldRegReg .d .d s

/-- LD D,E (R200). -/
def execLd_D_E (s : State) : Res := ldRegReg .d .e s

/-- LD D,H (R200). -/
def execLd_D_H (s : State) : Res := ldRegReg .d .h s

/-- LD D,L (R200). -/
def execLd_D_L (s : State) : Res := ldRegReg .d .l s

/-- LD D,(HL) (R202). -/
def execLd_D_mHL (s : State) : Res := ldRegMem .d s

/-- LD D,A (R200). -/
def execLd_D_A (s : State) : Res := ldRegReg .d .a s

/-- LD E,B (R200). -/
def execLd_E_B (s : State) : Res := ldRegReg .e .b s

/-- LD E,C (R200). -/
def execLd_E_C (s : State) : Res := ldRegReg .e .c s

/-- LD E,D (R200). -/
def execLd_E_D (s : State) : Res := ldRegReg .e .d s

/-- LD E,E (R200). -/
def execLd_E_E (s : State) : Res := ldRegReg .e .e s

/-- LD E,H (R200). -/
def execLd_E_H (s : State) : Res := ldRegReg .e .h s

/-- LD E,L (R200). -/
def execLd_E_L (s : State) : Res := ldRegReg .e .l s

/-- LD E,(HL) (R202). -/
def execLd_E_mHL (s : State) : Res := ldRegMem .e s

/-- LD E,A (R200). -/
def execLd_E_A (s : State) : Res := ldRegReg .e .a s

/-- LD H,B (R200). -/
def execLd_H_B (s : State) : Res := ldRegReg .h .b s

/-- LD H,C (R200). -/
def execLd_H_C (s : State) : Res := ldRegReg .h .c s

/-- LD H,D (R200). -/
def execLd_H_D (s : State) : Res := ldRegReg .h .d s

/-- LD H,E (R200). -/
def execLd_H_E (s : State) : Res := ldRegReg .h .e s

/-- LD H,H (R200). -/
def execLd_H_H (s : State) : Res := ldRegReg .h .h s

/-- LD H,L (R200). -/
def execLd_H_L (s : State) : Res := ldRegReg .h .l s

/-- LD H,(HL) (R202). -/
def execLd_H_mHL (s : State) : Res := ldRegMem .h s

/-- LD H,A (R200). -/
def execLd_H_A (s : State) : Res := ldRegReg .h .a s

/-- LD L,B (R200). -/
def execLd_L_B (s : State) : Res := ldRegReg .l .b s

/-- LD L,C (R200). -/
def execLd_L_C (s : State) : Res := ldRegReg .l .c s

/-- LD L,D (R200). -/
def execLd_L_D (s : State) : Res := ldRegReg .l .d s

/-- LD L,E (R200). -/
def execLd_L_E (s : State) : Res := ldRegReg .l .e s

/-- LD L,H (R200). -/
def execLd_L_H (s : State) : Res := ldRegReg .l .h s

/-- LD L,L (R200). -/
def execLd_L_L (s : State) : Res := ldRegReg .l .l s

/-- LD L,(HL) (R202). -/
def execLd_L_mHL (s : State) : Res := ldRegMem .l s

/-- LD L,A (R200). -/
def execLd_L_A (s : State) : Res := ldRegReg .l .a s

/-- LD (HL),B (R203). -/
def execLd_mHL_B (s : State) : Res := ldMemReg .b s

/-- LD (HL),C (R203). -/
def execLd_mHL_C (s : State) : Res := ldMemReg .c s

/-- LD (HL),D (R203). -/
def execLd_mHL_D (s : State) : Res := ldMemReg .d s

/-- LD (HL),E (R203). -/
def execLd_mHL_E (s : State) : Res := ldMemReg .e s

/-- LD (HL),H (R203). -/
def execLd_mHL_H (s : State) : Res := ldMemReg .h s

/-- LD (HL),L (R203). -/
def execLd_mHL_L (s : State) : Res := ldMemReg .l s

/-- LD (HL),A (R203). -/
def execLd_mHL_A (s : State) : Res := ldMemReg .a s

/-- LD A,B (R200). -/
def execLd_A_B (s : State) : Res := ldRegReg .a .b s

/-- LD A,C (R200). -/
def execLd_A_C (s : State) : Res := ldRegReg .a .c s

/-- LD A,D (R200). -/
def execLd_A_D (s : State) : Res := ldRegReg .a .d s

/-- LD A,E (R200). -/
def execLd_A_E (s : State) : Res := ldRegReg .a .e s

/-- LD A,H (R200). -/
def execLd_A_H (s : State) : Res := ldRegReg .a .h s

/-- LD A,L (R200). -/
def execLd_A_L (s : State) : Res := ldRegReg .a .l s

/-- LD A,(HL) (R202). -/
def execLd_A_mHL (s : State) : Res := ldRegMem .a s

/-- LD A,A (R200). -/
def execLd_A_A (s : State) : Res := ldRegReg .a .a s

/-- LDH (a8),A (R214). -/
def execLdh_ma8_A (n : Byte) (s : State) : Res := ldAInto 2 12 (highPage n) s

/-- LDH (C),A (R212). -/
def execLdh_mC_A (s : State) : Res := ldAInto 1 8 (highPage s.c) s

/-- LD (a16),A (R210). -/
def execLd_ma16_A (a : Word) (s : State) : Res := ldAInto 3 16 a s

/-- LDH A,(a8) (R213). -/
def execLdh_A_ma8 (n : Byte) (s : State) : Res := ldAFrom 2 12 (highPage n) s

/-- LDH A,(C) (R211). -/
def execLdh_A_mC (s : State) : Res := ldAFrom 1 8 (highPage s.c) s

/-- LD A,(a16) (R209). -/
def execLd_A_ma16 (a : Word) (s : State) : Res := ldAFrom 3 16 a s

end Sys2Proof.Machine
end

