-- ==== Sys2Proof/WellFormed.lean ====
section
/-! DEFINITION. Which terms of `Instr` are instructions. Every operand type admits exactly the values its encoding
admits, so one check remains: the bare prefix is "not an instruction on its own" (47_system.md R395); its two
bytes are the CB row's (30_encoding.md R125, R126; log 8). -/

namespace Sys2Proof

/-- The term is the bare CB prefix. -/
def Instr.isBarePrefix (i : Instr) : Bool :=
  match i with
  | .prefix_CB _ => true
  | _ => false

/-- The term is an instruction of the core. -/
def WellFormed (i : Instr) : Bool := !i.isBarePrefix

end Sys2Proof
end

