-- ==== Sys2Proof/Decode.lean ====
section
/-! DEFINITION. Decoding and encoding (30_encoding.md). The decoder reads the fields x, y, z, p, q as the opcode
map in prose does (R111, R112, R119); the encoder is written from the opcode table (R120, R121). `Family` names
the constructors of one rule by their operand. -/

namespace Sys2Proof

/-! ## Operand fields (R113–R116) -/

/-- `R8[i]` (R113). -/
def operand8 (i : BitVec 3) : Operand8 :=
  match i.toNat with
  | 0 => .reg .b
  | 1 => .reg .c
  | 2 => .reg .d
  | 3 => .reg .e
  | 4 => .reg .h
  | 5 => .reg .l
  | 6 => .memHL
  | _ => .reg .a

/-- `R16[p]` (R114). -/
def operand16 (p : BitVec 2) : Reg16 :=
  match p.toNat with
  | 0 => .bc
  | 1 => .de
  | 2 => .hl
  | _ => .sp

/-- `R16S[p]` (R115). -/
def operand16S (p : BitVec 2) : Reg16S :=
  match p.toNat with
  | 0 => .bc
  | 1 => .de
  | 2 => .hl
  | _ => .af

/-- The condition of field cc (R116). -/
def condOf (cc : BitVec 2) : Cond :=
  match cc.toNat with
  | 0 => .nz
  | 1 => .z
  | 2 => .nc
  | _ => .c

/-- The indirect operand of block 0, column 2, by p (R119). -/
def indOf (p : BitVec 2) : IndAddr :=
  match p.toNat with
  | 0 => .bc
  | 1 => .de
  | 2 => .hlInc
  | _ => .hlDec

/-- The ALU operation of field y (43_alu8.md `ooo`). -/
def aluOf (y : BitVec 3) : AluOp :=
  match y.toNat with
  | 0 => .add
  | 1 => .adc
  | 2 => .sub
  | 3 => .sbc
  | 4 => .and
  | 5 => .xor
  | 6 => .or
  | _ => .cp

/-- The rotate or shift of field y in the CB block x = 0 (R112). -/
def rotOf (y : BitVec 3) : RotOp :=
  match y.toNat with
  | 0 => .rlc
  | 1 => .rrc
  | 2 => .rl
  | 3 => .rr
  | 4 => .sla
  | 5 => .sra
  | 6 => .swap
  | _ => .srl

/-- The byte of an undefined opcode (R122). -/
def UndefOp.byte : UndefOp → Byte
  | .opD3 => 0xD3
  | .opDB => 0xDB
  | .opDD => 0xDD
  | .opE3 => 0xE3
  | .opE4 => 0xE4
  | .opEB => 0xEB
  | .opEC => 0xEC
  | .opED => 0xED
  | .opF4 => 0xF4
  | .opFC => 0xFC
  | .opFD => 0xFD

/-! ## The constructors of one rule, by operand -/

namespace Family

/-- LD r,r' (R200). -/
def ldRegReg (dst src : Reg8) : Instr :=
  match dst, src with
  | .b, .b => .ld_B_B
  | .b, .c => .ld_B_C
  | .b, .d => .ld_B_D
  | .b, .e => .ld_B_E
  | .b, .h => .ld_B_H
  | .b, .l => .ld_B_L
  | .b, .a => .ld_B_A
  | .c, .b => .ld_C_B
  | .c, .c => .ld_C_C
  | .c, .d => .ld_C_D
  | .c, .e => .ld_C_E
  | .c, .h => .ld_C_H
  | .c, .l => .ld_C_L
  | .c, .a => .ld_C_A
  | .d, .b => .ld_D_B
  | .d, .c => .ld_D_C
  | .d, .d => .ld_D_D
  | .d, .e => .ld_D_E
  | .d, .h => .ld_D_H
  | .d, .l => .ld_D_L
  | .d, .a => .ld_D_A
  | .e, .b => .ld_E_B
  | .e, .c => .ld_E_C
  | .e, .d => .ld_E_D
  | .e, .e => .ld_E_E
  | .e, .h => .ld_E_H
  | .e, .l => .ld_E_L
  | .e, .a => .ld_E_A
  | .h, .b => .ld_H_B
  | .h, .c => .ld_H_C
  | .h, .d => .ld_H_D
  | .h, .e => .ld_H_E
  | .h, .h => .ld_H_H
  | .h, .l => .ld_H_L
  | .h, .a => .ld_H_A
  | .l, .b => .ld_L_B
  | .l, .c => .ld_L_C
  | .l, .d => .ld_L_D
  | .l, .e => .ld_L_E
  | .l, .h => .ld_L_H
  | .l, .l => .ld_L_L
  | .l, .a => .ld_L_A
  | .a, .b => .ld_A_B
  | .a, .c => .ld_A_C
  | .a, .d => .ld_A_D
  | .a, .e => .ld_A_E
  | .a, .h => .ld_A_H
  | .a, .l => .ld_A_L
  | .a, .a => .ld_A_A

/-- LD r,(HL) (R202). -/
def ldRegMem (dst : Reg8) : Instr :=
  match dst with
  | .b => .ld_B_mHL
  | .c => .ld_C_mHL
  | .d => .ld_D_mHL
  | .e => .ld_E_mHL
  | .h => .ld_H_mHL
  | .l => .ld_L_mHL
  | .a => .ld_A_mHL

/-- LD (HL),r (R203). -/
def ldMemReg (src : Reg8) : Instr :=
  match src with
  | .b => .ld_mHL_B
  | .c => .ld_mHL_C
  | .d => .ld_mHL_D
  | .e => .ld_mHL_E
  | .h => .ld_mHL_H
  | .l => .ld_mHL_L
  | .a => .ld_mHL_A

/-- LD r,d8 and LD (HL),d8 (R201, R204). -/
def ldImm (o : Operand8) (n : Byte) : Instr :=
  match o with
  | .reg .b => .ld_B_d8 n
  | .reg .c => .ld_C_d8 n
  | .reg .d => .ld_D_d8 n
  | .reg .e => .ld_E_d8 n
  | .reg .h => .ld_H_d8 n
  | .reg .l => .ld_L_d8 n
  | .memHL => .ld_mHL_d8 n
  | .reg .a => .ld_A_d8 n

/-- LD A,(BC), LD A,(DE), LD A,(HL+), LD A,(HL-) (R205, R206, R215, R216). -/
def ldAInd (i : IndAddr) : Instr :=
  match i with
  | .bc => .ld_A_mBC
  | .de => .ld_A_mDE
  | .hlInc => .ld_A_mHLinc
  | .hlDec => .ld_A_mHLdec

/-- LD (BC),A, LD (DE),A, LD (HL+),A, LD (HL-),A (R207, R208, R217, R218). -/
def ldIndA (i : IndAddr) : Instr :=
  match i with
  | .bc => .ld_mBC_A
  | .de => .ld_mDE_A
  | .hlInc => .ld_mHLinc_A
  | .hlDec => .ld_mHLdec_A

/-- LD rr,d16 (R240). -/
def ldReg16Imm (p : Reg16) (v : Word) : Instr :=
  match p with
  | .bc => .ld_BC_d16 v
  | .de => .ld_DE_d16 v
  | .hl => .ld_HL_d16 v
  | .sp => .ld_SP_d16 v

/-- PUSH rr (R244). -/
def push (p : Reg16S) : Instr :=
  match p with
  | .bc => .push_BC
  | .de => .push_DE
  | .hl => .push_HL
  | .af => .push_AF

/-- POP rr (R245). -/
def pop (p : Reg16S) : Instr :=
  match p with
  | .bc => .pop_BC
  | .de => .pop_DE
  | .hl => .pop_HL
  | .af => .pop_AF

/-- ALU A,r and ALU A,(HL) (R260–R282). -/
def alu (op : AluOp) (o : Operand8) : Instr :=
  match op, o with
  | .add, .reg .b => .add_A_B
  | .add, .reg .c => .add_A_C
  | .add, .reg .d => .add_A_D
  | .add, .reg .e => .add_A_E
  | .add, .reg .h => .add_A_H
  | .add, .reg .l => .add_A_L
  | .add, .memHL => .add_A_mHL
  | .add, .reg .a => .add_A_A
  | .adc, .reg .b => .adc_A_B
  | .adc, .reg .c => .adc_A_C
  | .adc, .reg .d => .adc_A_D
  | .adc, .reg .e => .adc_A_E
  | .adc, .reg .h => .adc_A_H
  | .adc, .reg .l => .adc_A_L
  | .adc, .memHL => .adc_A_mHL
  | .adc, .reg .a => .adc_A_A
  | .sub, .reg .b => .sub_A_B
  | .sub, .reg .c => .sub_A_C
  | .sub, .reg .d => .sub_A_D
  | .sub, .reg .e => .sub_A_E
  | .sub, .reg .h => .sub_A_H
  | .sub, .reg .l => .sub_A_L
  | .sub, .memHL => .sub_A_mHL
  | .sub, .reg .a => .sub_A_A
  | .sbc, .reg .b => .sbc_A_B
  | .sbc, .reg .c => .sbc_A_C
  | .sbc, .reg .d => .sbc_A_D
  | .sbc, .reg .e => .sbc_A_E
  | .sbc, .reg .h => .sbc_A_H
  | .sbc, .reg .l => .sbc_A_L
  | .sbc, .memHL => .sbc_A_mHL
  | .sbc, .reg .a => .sbc_A_A
  | .and, .reg .b => .and_A_B
  | .and, .reg .c => .and_A_C
  | .and, .reg .d => .and_A_D
  | .and, .reg .e => .and_A_E
  | .and, .reg .h => .and_A_H
  | .and, .reg .l => .and_A_L
  | .and, .memHL => .and_A_mHL
  | .and, .reg .a => .and_A_A
  | .xor, .reg .b => .xor_A_B
  | .xor, .reg .c => .xor_A_C
  | .xor, .reg .d => .xor_A_D
  | .xor, .reg .e => .xor_A_E
  | .xor, .reg .h => .xor_A_H
  | .xor, .reg .l => .xor_A_L
  | .xor, .memHL => .xor_A_mHL
  | .xor, .reg .a => .xor_A_A
  | .or, .reg .b => .or_A_B
  | .or, .reg .c => .or_A_C
  | .or, .reg .d => .or_A_D
  | .or, .reg .e => .or_A_E
  | .or, .reg .h => .or_A_H
  | .or, .reg .l => .or_A_L
  | .or, .memHL => .or_A_mHL
  | .or, .reg .a => .or_A_A
  | .cp, .reg .b => .cp_A_B
  | .cp, .reg .c => .cp_A_C
  | .cp, .reg .d => .cp_A_D
  | .cp, .reg .e => .cp_A_E
  | .cp, .reg .h => .cp_A_H
  | .cp, .reg .l => .cp_A_L
  | .cp, .memHL => .cp_A_mHL
  | .cp, .reg .a => .cp_A_A

/-- ALU A,d8 (R262–R283). -/
def aluImm (op : AluOp) (n : Byte) : Instr :=
  match op with
  | .add => .add_A_d8 n
  | .adc => .adc_A_d8 n
  | .sub => .sub_A_d8 n
  | .sbc => .sbc_A_d8 n
  | .and => .and_A_d8 n
  | .xor => .xor_A_d8 n
  | .or => .or_A_d8 n
  | .cp => .cp_A_d8 n

/-- INC r and INC (HL) (R284, R285). -/
def inc8 (o : Operand8) : Instr :=
  match o with
  | .reg .b => .inc_B
  | .reg .c => .inc_C
  | .reg .d => .inc_D
  | .reg .e => .inc_E
  | .reg .h => .inc_H
  | .reg .l => .inc_L
  | .memHL => .inc_mHL
  | .reg .a => .inc_A

/-- DEC r and DEC (HL) (R286, R287). -/
def dec8 (o : Operand8) : Instr :=
  match o with
  | .reg .b => .dec_B
  | .reg .c => .dec_C
  | .reg .d => .dec_D
  | .reg .e => .dec_E
  | .reg .h => .dec_H
  | .reg .l => .dec_L
  | .memHL => .dec_mHL
  | .reg .a => .dec_A

/-- ADD HL,rr (R300). -/
def addHL (p : Reg16) : Instr :=
  match p with
  | .bc => .add_HL_BC
  | .de => .add_HL_DE
  | .hl => .add_HL_HL
  | .sp => .add_HL_SP

/-- INC rr (R301). -/
def inc16 (p : Reg16) : Instr :=
  match p with
  | .bc => .inc_BC
  | .de => .inc_DE
  | .hl => .inc_HL
  | .sp => .inc_SP

/-- DEC rr (R302). -/
def dec16 (p : Reg16) : Instr :=
  match p with
  | .bc => .dec_BC
  | .de => .dec_DE
  | .hl => .dec_HL
  | .sp => .dec_SP

/-- The CB rotates, shifts and SWAP (R324–R339). -/
def rot (op : RotOp) (o : Operand8) : Instr :=
  match op, o with
  | .rlc, .reg .b => .rlc_B
  | .rlc, .reg .c => .rlc_C
  | .rlc, .reg .d => .rlc_D
  | .rlc, .reg .e => .rlc_E
  | .rlc, .reg .h => .rlc_H
  | .rlc, .reg .l => .rlc_L
  | .rlc, .memHL => .rlc_mHL
  | .rlc, .reg .a => .rlc_A
  | .rrc, .reg .b => .rrc_B
  | .rrc, .reg .c => .rrc_C
  | .rrc, .reg .d => .rrc_D
  | .rrc, .reg .e => .rrc_E
  | .rrc, .reg .h => .rrc_H
  | .rrc, .reg .l => .rrc_L
  | .rrc, .memHL => .rrc_mHL
  | .rrc, .reg .a => .rrc_A
  | .rl, .reg .b => .rl_B
  | .rl, .reg .c => .rl_C
  | .rl, .reg .d => .rl_D
  | .rl, .reg .e => .rl_E
  | .rl, .reg .h => .rl_H
  | .rl, .reg .l => .rl_L
  | .rl, .memHL => .rl_mHL
  | .rl, .reg .a => .rl_A
  | .rr, .reg .b => .rr_B
  | .rr, .reg .c => .rr_C
  | .rr, .reg .d => .rr_D
  | .rr, .reg .e => .rr_E
  | .rr, .reg .h => .rr_H
  | .rr, .reg .l => .rr_L
  | .rr, .memHL => .rr_mHL
  | .rr, .reg .a => .rr_A
  | .sla, .reg .b => .sla_B
  | .sla, .reg .c => .sla_C
  | .sla, .reg .d => .sla_D
  | .sla, .reg .e => .sla_E
  | .sla, .reg .h => .sla_H
  | .sla, .reg .l => .sla_L
  | .sla, .memHL => .sla_mHL
  | .sla, .reg .a => .sla_A
  | .sra, .reg .b => .sra_B
  | .sra, .reg .c => .sra_C
  | .sra, .reg .d => .sra_D
  | .sra, .reg .e => .sra_E
  | .sra, .reg .h => .sra_H
  | .sra, .reg .l => .sra_L
  | .sra, .memHL => .sra_mHL
  | .sra, .reg .a => .sra_A
  | .swap, .reg .b => .swap_B
  | .swap, .reg .c => .swap_C
  | .swap, .reg .d => .swap_D
  | .swap, .reg .e => .swap_E
  | .swap, .reg .h => .swap_H
  | .swap, .reg .l => .swap_L
  | .swap, .memHL => .swap_mHL
  | .swap, .reg .a => .swap_A
  | .srl, .reg .b => .srl_B
  | .srl, .reg .c => .srl_C
  | .srl, .reg .d => .srl_D
  | .srl, .reg .e => .srl_E
  | .srl, .reg .h => .srl_H
  | .srl, .reg .l => .srl_L
  | .srl, .memHL => .srl_mHL
  | .srl, .reg .a => .srl_A

/-- BIT b,r and BIT b,(HL) (R340, R341). -/
def bit (b : Fin 8) (o : Operand8) : Instr :=
  match o with
  | .reg .b =>
    match b.val with
    | 0 => .bit_0_B
    | 1 => .bit_1_B
    | 2 => .bit_2_B
    | 3 => .bit_3_B
    | 4 => .bit_4_B
    | 5 => .bit_5_B
    | 6 => .bit_6_B
    | _ => .bit_7_B
  | .reg .c =>
    match b.val with
    | 0 => .bit_0_C
    | 1 => .bit_1_C
    | 2 => .bit_2_C
    | 3 => .bit_3_C
    | 4 => .bit_4_C
    | 5 => .bit_5_C
    | 6 => .bit_6_C
    | _ => .bit_7_C
  | .reg .d =>
    match b.val with
    | 0 => .bit_0_D
    | 1 => .bit_1_D
    | 2 => .bit_2_D
    | 3 => .bit_3_D
    | 4 => .bit_4_D
    | 5 => .bit_5_D
    | 6 => .bit_6_D
    | _ => .bit_7_D
  | .reg .e =>
    match b.val with
    | 0 => .bit_0_E
    | 1 => .bit_1_E
    | 2 => .bit_2_E
    | 3 => .bit_3_E
    | 4 => .bit_4_E
    | 5 => .bit_5_E
    | 6 => .bit_6_E
    | _ => .bit_7_E
  | .reg .h =>
    match b.val with
    | 0 => .bit_0_H
    | 1 => .bit_1_H
    | 2 => .bit_2_H
    | 3 => .bit_3_H
    | 4 => .bit_4_H
    | 5 => .bit_5_H
    | 6 => .bit_6_H
    | _ => .bit_7_H
  | .reg .l =>
    match b.val with
    | 0 => .bit_0_L
    | 1 => .bit_1_L
    | 2 => .bit_2_L
    | 3 => .bit_3_L
    | 4 => .bit_4_L
    | 5 => .bit_5_L
    | 6 => .bit_6_L
    | _ => .bit_7_L
  | .memHL =>
    match b.val with
    | 0 => .bit_0_mHL
    | 1 => .bit_1_mHL
    | 2 => .bit_2_mHL
    | 3 => .bit_3_mHL
    | 4 => .bit_4_mHL
    | 5 => .bit_5_mHL
    | 6 => .bit_6_mHL
    | _ => .bit_7_mHL
  | .reg .a =>
    match b.val with
    | 0 => .bit_0_A
    | 1 => .bit_1_A
    | 2 => .bit_2_A
    | 3 => .bit_3_A
    | 4 => .bit_4_A
    | 5 => .bit_5_A
    | 6 => .bit_6_A
    | _ => .bit_7_A

/-- RES b,r and RES b,(HL) (R342, R343). -/
def res (b : Fin 8) (o : Operand8) : Instr :=
  match o with
  | .reg .b =>
    match b.val with
    | 0 => .res_0_B
    | 1 => .res_1_B
    | 2 => .res_2_B
    | 3 => .res_3_B
    | 4 => .res_4_B
    | 5 => .res_5_B
    | 6 => .res_6_B
    | _ => .res_7_B
  | .reg .c =>
    match b.val with
    | 0 => .res_0_C
    | 1 => .res_1_C
    | 2 => .res_2_C
    | 3 => .res_3_C
    | 4 => .res_4_C
    | 5 => .res_5_C
    | 6 => .res_6_C
    | _ => .res_7_C
  | .reg .d =>
    match b.val with
    | 0 => .res_0_D
    | 1 => .res_1_D
    | 2 => .res_2_D
    | 3 => .res_3_D
    | 4 => .res_4_D
    | 5 => .res_5_D
    | 6 => .res_6_D
    | _ => .res_7_D
  | .reg .e =>
    match b.val with
    | 0 => .res_0_E
    | 1 => .res_1_E
    | 2 => .res_2_E
    | 3 => .res_3_E
    | 4 => .res_4_E
    | 5 => .res_5_E
    | 6 => .res_6_E
    | _ => .res_7_E
  | .reg .h =>
    match b.val with
    | 0 => .res_0_H
    | 1 => .res_1_H
    | 2 => .res_2_H
    | 3 => .res_3_H
    | 4 => .res_4_H
    | 5 => .res_5_H
    | 6 => .res_6_H
    | _ => .res_7_H
  | .reg .l =>
    match b.val with
    | 0 => .res_0_L
    | 1 => .res_1_L
    | 2 => .res_2_L
    | 3 => .res_3_L
    | 4 => .res_4_L
    | 5 => .res_5_L
    | 6 => .res_6_L
    | _ => .res_7_L
  | .memHL =>
    match b.val with
    | 0 => .res_0_mHL
    | 1 => .res_1_mHL
    | 2 => .res_2_mHL
    | 3 => .res_3_mHL
    | 4 => .res_4_mHL
    | 5 => .res_5_mHL
    | 6 => .res_6_mHL
    | _ => .res_7_mHL
  | .reg .a =>
    match b.val with
    | 0 => .res_0_A
    | 1 => .res_1_A
    | 2 => .res_2_A
    | 3 => .res_3_A
    | 4 => .res_4_A
    | 5 => .res_5_A
    | 6 => .res_6_A
    | _ => .res_7_A

/-- SET b,r and SET b,(HL) (R344, R345). -/
def set (b : Fin 8) (o : Operand8) : Instr :=
  match o with
  | .reg .b =>
    match b.val with
    | 0 => .set_0_B
    | 1 => .set_1_B
    | 2 => .set_2_B
    | 3 => .set_3_B
    | 4 => .set_4_B
    | 5 => .set_5_B
    | 6 => .set_6_B
    | _ => .set_7_B
  | .reg .c =>
    match b.val with
    | 0 => .set_0_C
    | 1 => .set_1_C
    | 2 => .set_2_C
    | 3 => .set_3_C
    | 4 => .set_4_C
    | 5 => .set_5_C
    | 6 => .set_6_C
    | _ => .set_7_C
  | .reg .d =>
    match b.val with
    | 0 => .set_0_D
    | 1 => .set_1_D
    | 2 => .set_2_D
    | 3 => .set_3_D
    | 4 => .set_4_D
    | 5 => .set_5_D
    | 6 => .set_6_D
    | _ => .set_7_D
  | .reg .e =>
    match b.val with
    | 0 => .set_0_E
    | 1 => .set_1_E
    | 2 => .set_2_E
    | 3 => .set_3_E
    | 4 => .set_4_E
    | 5 => .set_5_E
    | 6 => .set_6_E
    | _ => .set_7_E
  | .reg .h =>
    match b.val with
    | 0 => .set_0_H
    | 1 => .set_1_H
    | 2 => .set_2_H
    | 3 => .set_3_H
    | 4 => .set_4_H
    | 5 => .set_5_H
    | 6 => .set_6_H
    | _ => .set_7_H
  | .reg .l =>
    match b.val with
    | 0 => .set_0_L
    | 1 => .set_1_L
    | 2 => .set_2_L
    | 3 => .set_3_L
    | 4 => .set_4_L
    | 5 => .set_5_L
    | 6 => .set_6_L
    | _ => .set_7_L
  | .memHL =>
    match b.val with
    | 0 => .set_0_mHL
    | 1 => .set_1_mHL
    | 2 => .set_2_mHL
    | 3 => .set_3_mHL
    | 4 => .set_4_mHL
    | 5 => .set_5_mHL
    | 6 => .set_6_mHL
    | _ => .set_7_mHL
  | .reg .a =>
    match b.val with
    | 0 => .set_0_A
    | 1 => .set_1_A
    | 2 => .set_2_A
    | 3 => .set_3_A
    | 4 => .set_4_A
    | 5 => .set_5_A
    | 6 => .set_6_A
    | _ => .set_7_A

/-- JP cc,a16 (R361). -/
def jpCond (cc : Cond) (a : Word) : Instr :=
  match cc with
  | .nz => .jp_NZ_a16 a
  | .z => .jp_Z_a16 a
  | .nc => .jp_NC_a16 a
  | .c => .jp_C_a16 a

/-- JR cc,e8 (R364). -/
def jrCond (cc : Cond) (e : Byte) : Instr :=
  match cc with
  | .nz => .jr_NZ_e8 e
  | .z => .jr_Z_e8 e
  | .nc => .jr_NC_e8 e
  | .c => .jr_C_e8 e

/-- CALL cc,a16 (R366). -/
def callCond (cc : Cond) (a : Word) : Instr :=
  match cc with
  | .nz => .call_NZ_a16 a
  | .z => .call_Z_a16 a
  | .nc => .call_NC_a16 a
  | .c => .call_C_a16 a

/-- RET cc (R368). -/
def retCond (cc : Cond) : Instr :=
  match cc with
  | .nz => .ret_NZ
  | .z => .ret_Z
  | .nc => .ret_NC
  | .c => .ret_C

/-- RST 8·t (R370). -/
def rst (t : Fin 8) : Instr :=
  match t.val with
  | 0 => .rst_00
  | 1 => .rst_08
  | 2 => .rst_10
  | 3 => .rst_18
  | 4 => .rst_20
  | 5 => .rst_28
  | 6 => .rst_30
  | _ => .rst_38

/-- The undefined opcodes (R396). -/
def undef (u : UndefOp) : Instr :=
  match u with
  | .opD3 => .undef_D3
  | .opDB => .undef_DB
  | .opDD => .undef_DD
  | .opE3 => .undef_E3
  | .opE4 => .undef_E4
  | .opEB => .undef_EB
  | .opEC => .undef_EC
  | .opED => .undef_ED
  | .opF4 => .undef_F4
  | .opFC => .undef_FC
  | .opFD => .undef_FD

end Family

/-! ## The decoder (R119, R125, R126) -/

/-- Block x = 0 (R119). -/
def decodeBlock0 (op b1 b2 : Byte) : Instr :=
  match (zField op).toNat with
  | 0 =>
    match (yField op).toNat with
    | 0 => .nop
    | 1 => .ld_ma16_SP (w16 b2 b1)
    | 2 => .stop b1
    | 3 => .jr_e8 b1
    | _ => Family.jrCond (condOf (ccField op)) b1
  | 1 => if qField op then Family.addHL (operand16 (pField op))
         else Family.ldReg16Imm (operand16 (pField op)) (w16 b2 b1)
  | 2 => if qField op then Family.ldAInd (indOf (pField op)) else Family.ldIndA (indOf (pField op))
  | 3 => if qField op then Family.dec16 (operand16 (pField op)) else Family.inc16 (operand16 (pField op))
  | 4 => Family.inc8 (operand8 (yField op))
  | 5 => Family.dec8 (operand8 (yField op))
  | 6 => Family.ldImm (operand8 (yField op)) b1
  | _ =>
    match (yField op).toNat with
    | 0 => .rlca
    | 1 => .rrca
    | 2 => .rla
    | 3 => .rra
    | 4 => .daa
    | 5 => .cpl
    | 6 => .scf
    | _ => .ccf

/-- Block x = 1: LD r,r', and HALT in the slot (HL),(HL) (R119). -/
def decodeBlock1 (op : Byte) : Instr :=
  match operand8 (yField op), operand8 (zField op) with
  | .reg dst, .reg src => Family.ldRegReg dst src
  | .reg dst, .memHL => Family.ldRegMem dst
  | .memHL, .reg src => Family.ldMemReg src
  | .memHL, .memHL => .halt

/-- A CB opcode (R112, R121): every one of the 256 values is defined (R123). -/
def decodeCB (cb : Byte) : Instr :=
  match (xField cb).toNat with
  | 0 => Family.rot (rotOf (yField cb)) (operand8 (zField cb))
  | 1 => Family.bit (yField cb).toFin (operand8 (zField cb))
  | 2 => Family.res (yField cb).toFin (operand8 (zField cb))
  | _ => Family.set (yField cb).toFin (operand8 (zField cb))

/-- Block x = 3 (R119); y = 1 of column 3 is the prefix, and the eleven gaps are undefined (R122). -/
def decodeBlock3 (op b1 b2 : Byte) : Instr :=
  match (zField op).toNat with
  | 0 =>
    match (yField op).toNat with
    | 4 => .ldh_ma8_A b1
    | 5 => .add_SP_e8 b1
    | 6 => .ldh_A_ma8 b1
    | 7 => .ld_HL_SPe8 b1
    | _ => Family.retCond (condOf (ccField op))
  | 1 =>
    if qField op then
      match (pField op).toNat with
      | 0 => .ret
      | 1 => .reti
      | 2 => .jp_HL
      | _ => .ld_SP_HL
    else Family.pop (operand16S (pField op))
  | 2 =>
    match (yField op).toNat with
    | 4 => .ldh_mC_A
    | 5 => .ld_ma16_A (w16 b2 b1)
    | 6 => .ldh_A_mC
    | 7 => .ld_A_ma16 (w16 b2 b1)
    | _ => Family.jpCond (condOf (ccField op)) (w16 b2 b1)
  | 3 =>
    match (yField op).toNat with
    | 0 => .jp_a16 (w16 b2 b1)
    | 1 => decodeCB b1
    | 2 => Family.undef .opD3
    | 3 => Family.undef .opDB
    | 4 => Family.undef .opE3
    | 5 => Family.undef .opEB
    | 6 => .di
    | _ => .ei
  | 4 =>
    match (yField op).toNat with
    | 4 => Family.undef .opE4
    | 5 => Family.undef .opEC
    | 6 => Family.undef .opF4
    | 7 => Family.undef .opFC
    | _ => Family.callCond (condOf (ccField op)) (w16 b2 b1)
  | 5 =>
    if qField op then
      match (pField op).toNat with
      | 0 => .call_a16 (w16 b2 b1)
      | 1 => Family.undef .opDD
      | 2 => Family.undef .opED
      | _ => Family.undef .opFD
    else Family.push (operand16S (pField op))
  | 6 => Family.aluImm (aluOf (yField op)) b1
  | _ => Family.rst (yField op).toFin

/-- The instruction whose first bytes are `op`, `b1`, `b2`; bytes past its length are not looked at. Total
(R126). -/
def decodeBytes (op b1 b2 : Byte) : Instr :=
  match (xField op).toNat with
  | 0 => decodeBlock0 op b1 b2
  | 1 => decodeBlock1 op
  | 2 => Family.alu (aluOf (yField op)) (operand8 (zField op))
  | _ => decodeBlock3 op b1 b2

/-- The first bytes of three-byte instructions (R124). -/
def threeByteOpcodes : List Byte :=
  [0x01, 0x11, 0x21, 0x31, 0x08, 0xC2, 0xCA, 0xD2, 0xDA, 0xC3, 0xC4, 0xCC, 0xD4, 0xDC, 0xCD, 0xEA, 0xFA]

/-- The first bytes of two-byte instructions (R124). -/
def twoByteOpcodes : List Byte :=
  [0x06, 0x0E, 0x16, 0x1E, 0x26, 0x2E, 0x36, 0x3E, 0x10, 0x18, 0x20, 0x28, 0x30, 0x38] ++
  [0xC6, 0xCE, 0xD6, 0xDE, 0xE6, 0xEE, 0xF6, 0xFE, 0xE0, 0xF0, 0xE8, 0xF8, 0xCB]

/-- The length of an instruction from byte 0 alone (R124). -/
def lengthOf (op : Byte) : Nat :=
  if threeByteOpcodes.contains op then 3 else if twoByteOpcodes.contains op then 2 else 1

/-- Why a byte list holds no whole instruction; every opcode itself is decoded (R126). -/
inductive DecodeError where
  /-- No byte at all. -/
  | empty
  /-- The opcode asks for more bytes than are there. -/
  | truncated (op : Byte)
deriving DecidableEq, Repr

/-- Decode the instruction at the head of a byte list; the answer carries the rest of the list. -/
def decode (bytes : List Byte) : Except DecodeError (Instr × List Byte) :=
  match bytes with
  | [] => .error .empty
  | op :: rest =>
    match lengthOf op, rest with
    | 3, b1 :: b2 :: rest' => .ok (decodeBytes op b1 b2, rest')
    | 2, b1 :: rest' => .ok (decodeBytes op b1 0, rest')
    | 1, rest' => .ok (decodeBytes op 0 0, rest')
    | _, _ => .error (.truncated op)

/-! ## The encoder -/

/-- The bytes of an instruction, from the opcode table (opcode_table.json; the grids of R120 and R121) and the
formats of R110: immediates follow the opcode, a 16-bit one low byte first. -/
def encode (i : Instr) : List Byte :=
  match i with
  | .nop => [0x00]
  | .ld_BC_d16 v => [0x01, lo v, hi v]
  | .ld_mBC_A => [0x02]
  | .inc_BC => [0x03]
  | .inc_B => [0x04]
  | .dec_B => [0x05]
  | .ld_B_d8 n => [0x06, n]
  | .rlca => [0x07]
  | .ld_ma16_SP a => [0x08, lo a, hi a]
  | .add_HL_BC => [0x09]
  | .ld_A_mBC => [0x0A]
  | .dec_BC => [0x0B]
  | .inc_C => [0x0C]
  | .dec_C => [0x0D]
  | .ld_C_d8 n => [0x0E, n]
  | .rrca => [0x0F]
  | .stop ignored => [0x10, ignored]
  | .ld_DE_d16 v => [0x11, lo v, hi v]
  | .ld_mDE_A => [0x12]
  | .inc_DE => [0x13]
  | .inc_D => [0x14]
  | .dec_D => [0x15]
  | .ld_D_d8 n => [0x16, n]
  | .rla => [0x17]
  | .jr_e8 e => [0x18, e]
  | .add_HL_DE => [0x19]
  | .ld_A_mDE => [0x1A]
  | .dec_DE => [0x1B]
  | .inc_E => [0x1C]
  | .dec_E => [0x1D]
  | .ld_E_d8 n => [0x1E, n]
  | .rra => [0x1F]
  | .jr_NZ_e8 e => [0x20, e]
  | .ld_HL_d16 v => [0x21, lo v, hi v]
  | .ld_mHLinc_A => [0x22]
  | .inc_HL => [0x23]
  | .inc_H => [0x24]
  | .dec_H => [0x25]
  | .ld_H_d8 n => [0x26, n]
  | .daa => [0x27]
  | .jr_Z_e8 e => [0x28, e]
  | .add_HL_HL => [0x29]
  | .ld_A_mHLinc => [0x2A]
  | .dec_HL => [0x2B]
  | .inc_L => [0x2C]
  | .dec_L => [0x2D]
  | .ld_L_d8 n => [0x2E, n]
  | .cpl => [0x2F]
  | .jr_NC_e8 e => [0x30, e]
  | .ld_SP_d16 v => [0x31, lo v, hi v]
  | .ld_mHLdec_A => [0x32]
  | .inc_SP => [0x33]
  | .inc_mHL => [0x34]
  | .dec_mHL => [0x35]
  | .ld_mHL_d8 n => [0x36, n]
  | .scf => [0x37]
  | .jr_C_e8 e => [0x38, e]
  | .add_HL_SP => [0x39]
  | .ld_A_mHLdec => [0x3A]
  | .dec_SP => [0x3B]
  | .inc_A => [0x3C]
  | .dec_A => [0x3D]
  | .ld_A_d8 n => [0x3E, n]
  | .ccf => [0x3F]
  | .ld_B_B => [0x40]
  | .ld_B_C => [0x41]
  | .ld_B_D => [0x42]
  | .ld_B_E => [0x43]
  | .ld_B_H => [0x44]
  | .ld_B_L => [0x45]
  | .ld_B_mHL => [0x46]
  | .ld_B_A => [0x47]
  | .ld_C_B => [0x48]
  | .ld_C_C => [0x49]
  | .ld_C_D => [0x4A]
  | .ld_C_E => [0x4B]
  | .ld_C_H => [0x4C]
  | .ld_C_L => [0x4D]
  | .ld_C_mHL => [0x4E]
  | .ld_C_A => [0x4F]
  | .ld_D_B => [0x50]
  | .ld_D_C => [0x51]
  | .ld_D_D => [0x52]
  | .ld_D_E => [0x53]
  | .ld_D_H => [0x54]
  | .ld_D_L => [0x55]
  | .ld_D_mHL => [0x56]
  | .ld_D_A => [0x57]
  | .ld_E_B => [0x58]
  | .ld_E_C => [0x59]
  | .ld_E_D => [0x5A]
  | .ld_E_E => [0x5B]
  | .ld_E_H => [0x5C]
  | .ld_E_L => [0x5D]
  | .ld_E_mHL => [0x5E]
  | .ld_E_A => [0x5F]
  | .ld_H_B => [0x60]
  | .ld_H_C => [0x61]
  | .ld_H_D => [0x62]
  | .ld_H_E => [0x63]
  | .ld_H_H => [0x64]
  | .ld_H_L => [0x65]
  | .ld_H_mHL => [0x66]
  | .ld_H_A => [0x67]
  | .ld_L_B => [0x68]
  | .ld_L_C => [0x69]
  | .ld_L_D => [0x6A]
  | .ld_L_E => [0x6B]
  | .ld_L_H => [0x6C]
  | .ld_L_L => [0x6D]
  | .ld_L_mHL => [0x6E]
  | .ld_L_A => [0x6F]
  | .ld_mHL_B => [0x70]
  | .ld_mHL_C => [0x71]
  | .ld_mHL_D => [0x72]
  | .ld_mHL_E => [0x73]
  | .ld_mHL_H => [0x74]
  | .ld_mHL_L => [0x75]
  | .halt => [0x76]
  | .ld_mHL_A => [0x77]
  | .ld_A_B => [0x78]
  | .ld_A_C => [0x79]
  | .ld_A_D => [0x7A]
  | .ld_A_E => [0x7B]
  | .ld_A_H => [0x7C]
  | .ld_A_L => [0x7D]
  | .ld_A_mHL => [0x7E]
  | .ld_A_A => [0x7F]
  | .add_A_B => [0x80]
  | .add_A_C => [0x81]
  | .add_A_D => [0x82]
  | .add_A_E => [0x83]
  | .add_A_H => [0x84]
  | .add_A_L => [0x85]
  | .add_A_mHL => [0x86]
  | .add_A_A => [0x87]
  | .adc_A_B => [0x88]
  | .adc_A_C => [0x89]
  | .adc_A_D => [0x8A]
  | .adc_A_E => [0x8B]
  | .adc_A_H => [0x8C]
  | .adc_A_L => [0x8D]
  | .adc_A_mHL => [0x8E]
  | .adc_A_A => [0x8F]
  | .sub_A_B => [0x90]
  | .sub_A_C => [0x91]
  | .sub_A_D => [0x92]
  | .sub_A_E => [0x93]
  | .sub_A_H => [0x94]
  | .sub_A_L => [0x95]
  | .sub_A_mHL => [0x96]
  | .sub_A_A => [0x97]
  | .sbc_A_B => [0x98]
  | .sbc_A_C => [0x99]
  | .sbc_A_D => [0x9A]
  | .sbc_A_E => [0x9B]
  | .sbc_A_H => [0x9C]
  | .sbc_A_L => [0x9D]
  | .sbc_A_mHL => [0x9E]
  | .sbc_A_A => [0x9F]
  | .and_A_B => [0xA0]
  | .and_A_C => [0xA1]
  | .and_A_D => [0xA2]
  | .and_A_E => [0xA3]
  | .and_A_H => [0xA4]
  | .and_A_L => [0xA5]
  | .and_A_mHL => [0xA6]
  | .and_A_A => [0xA7]
  | .xor_A_B => [0xA8]
  | .xor_A_C => [0xA9]
  | .xor_A_D => [0xAA]
  | .xor_A_E => [0xAB]
  | .xor_A_H => [0xAC]
  | .xor_A_L => [0xAD]
  | .xor_A_mHL => [0xAE]
  | .xor_A_A => [0xAF]
  | .or_A_B => [0xB0]
  | .or_A_C => [0xB1]
  | .or_A_D => [0xB2]
  | .or_A_E => [0xB3]
  | .or_A_H => [0xB4]
  | .or_A_L => [0xB5]
  | .or_A_mHL => [0xB6]
  | .or_A_A => [0xB7]
  | .cp_A_B => [0xB8]
  | .cp_A_C => [0xB9]
  | .cp_A_D => [0xBA]
  | .cp_A_E => [0xBB]
  | .cp_A_H => [0xBC]
  | .cp_A_L => [0xBD]
  | .cp_A_mHL => [0xBE]
  | .cp_A_A => [0xBF]
  | .ret_NZ => [0xC0]
  | .pop_BC => [0xC1]
  | .jp_NZ_a16 a => [0xC2, lo a, hi a]
  | .jp_a16 a => [0xC3, lo a, hi a]
  | .call_NZ_a16 a => [0xC4, lo a, hi a]
  | .push_BC => [0xC5]
  | .add_A_d8 n => [0xC6, n]
  | .rst_00 => [0xC7]
  | .ret_Z => [0xC8]
  | .ret => [0xC9]
  | .jp_Z_a16 a => [0xCA, lo a, hi a]
  | .prefix_CB xx => [0xCB, xx]
  | .call_Z_a16 a => [0xCC, lo a, hi a]
  | .call_a16 a => [0xCD, lo a, hi a]
  | .adc_A_d8 n => [0xCE, n]
  | .rst_08 => [0xCF]
  | .ret_NC => [0xD0]
  | .pop_DE => [0xD1]
  | .jp_NC_a16 a => [0xD2, lo a, hi a]
  | .undef_D3 => [0xD3]
  | .call_NC_a16 a => [0xD4, lo a, hi a]
  | .push_DE => [0xD5]
  | .sub_A_d8 n => [0xD6, n]
  | .rst_10 => [0xD7]
  | .ret_C => [0xD8]
  | .reti => [0xD9]
  | .jp_C_a16 a => [0xDA, lo a, hi a]
  | .undef_DB => [0xDB]
  | .call_C_a16 a => [0xDC, lo a, hi a]
  | .undef_DD => [0xDD]
  | .sbc_A_d8 n => [0xDE, n]
  | .rst_18 => [0xDF]
  | .ldh_ma8_A n => [0xE0, n]
  | .pop_HL => [0xE1]
  | .ldh_mC_A => [0xE2]
  | .undef_E3 => [0xE3]
  | .undef_E4 => [0xE4]
  | .push_HL => [0xE5]
  | .and_A_d8 n => [0xE6, n]
  | .rst_20 => [0xE7]
  | .add_SP_e8 e => [0xE8, e]
  | .jp_HL => [0xE9]
  | .ld_ma16_A a => [0xEA, lo a, hi a]
  | .undef_EB => [0xEB]
  | .undef_EC => [0xEC]
  | .undef_ED => [0xED]
  | .xor_A_d8 n => [0xEE, n]
  | .rst_28 => [0xEF]
  | .ldh_A_ma8 n => [0xF0, n]
  | .pop_AF => [0xF1]
  | .ldh_A_mC => [0xF2]
  | .di => [0xF3]
  | .undef_F4 => [0xF4]
  | .push_AF => [0xF5]
  | .or_A_d8 n => [0xF6, n]
  | .rst_30 => [0xF7]
  | .ld_HL_SPe8 e => [0xF8, e]
  | .ld_SP_HL => [0xF9]
  | .ld_A_ma16 a => [0xFA, lo a, hi a]
  | .ei => [0xFB]
  | .undef_FC => [0xFC]
  | .undef_FD => [0xFD]
  | .cp_A_d8 n => [0xFE, n]
  | .rst_38 => [0xFF]
  | .rlc_B => [0xCB, 0x00]
  | .rlc_C => [0xCB, 0x01]
  | .rlc_D => [0xCB, 0x02]
  | .rlc_E => [0xCB, 0x03]
  | .rlc_H => [0xCB, 0x04]
  | .rlc_L => [0xCB, 0x05]
  | .rlc_mHL => [0xCB, 0x06]
  | .rlc_A => [0xCB, 0x07]
  | .rrc_B => [0xCB, 0x08]
  | .rrc_C => [0xCB, 0x09]
  | .rrc_D => [0xCB, 0x0A]
  | .rrc_E => [0xCB, 0x0B]
  | .rrc_H => [0xCB, 0x0C]
  | .rrc_L => [0xCB, 0x0D]
  | .rrc_mHL => [0xCB, 0x0E]
  | .rrc_A => [0xCB, 0x0F]
  | .rl_B => [0xCB, 0x10]
  | .rl_C => [0xCB, 0x11]
  | .rl_D => [0xCB, 0x12]
  | .rl_E => [0xCB, 0x13]
  | .rl_H => [0xCB, 0x14]
  | .rl_L => [0xCB, 0x15]
  | .rl_mHL => [0xCB, 0x16]
  | .rl_A => [0xCB, 0x17]
  | .rr_B => [0xCB, 0x18]
  | .rr_C => [0xCB, 0x19]
  | .rr_D => [0xCB, 0x1A]
  | .rr_E => [0xCB, 0x1B]
  | .rr_H => [0xCB, 0x1C]
  | .rr_L => [0xCB, 0x1D]
  | .rr_mHL => [0xCB, 0x1E]
  | .rr_A => [0xCB, 0x1F]
  | .sla_B => [0xCB, 0x20]
  | .sla_C => [0xCB, 0x21]
  | .sla_D => [0xCB, 0x22]
  | .sla_E => [0xCB, 0x23]
  | .sla_H => [0xCB, 0x24]
  | .sla_L => [0xCB, 0x25]
  | .sla_mHL => [0xCB, 0x26]
  | .sla_A => [0xCB, 0x27]
  | .sra_B => [0xCB, 0x28]
  | .sra_C => [0xCB, 0x29]
  | .sra_D => [0xCB, 0x2A]
  | .sra_E => [0xCB, 0x2B]
  | .sra_H => [0xCB, 0x2C]
  | .sra_L => [0xCB, 0x2D]
  | .sra_mHL => [0xCB, 0x2E]
  | .sra_A => [0xCB, 0x2F]
  | .swap_B => [0xCB, 0x30]
  | .swap_C => [0xCB, 0x31]
  | .swap_D => [0xCB, 0x32]
  | .swap_E => [0xCB, 0x33]
  | .swap_H => [0xCB, 0x34]
  | .swap_L => [0xCB, 0x35]
  | .swap_mHL => [0xCB, 0x36]
  | .swap_A => [0xCB, 0x37]
  | .srl_B => [0xCB, 0x38]
  | .srl_C => [0xCB, 0x39]
  | .srl_D => [0xCB, 0x3A]
  | .srl_E => [0xCB, 0x3B]
  | .srl_H => [0xCB, 0x3C]
  | .srl_L => [0xCB, 0x3D]
  | .srl_mHL => [0xCB, 0x3E]
  | .srl_A => [0xCB, 0x3F]
  | .bit_0_B => [0xCB, 0x40]
  | .bit_0_C => [0xCB, 0x41]
  | .bit_0_D => [0xCB, 0x42]
  | .bit_0_E => [0xCB, 0x43]
  | .bit_0_H => [0xCB, 0x44]
  | .bit_0_L => [0xCB, 0x45]
  | .bit_0_mHL => [0xCB, 0x46]
  | .bit_0_A => [0xCB, 0x47]
  | .bit_1_B => [0xCB, 0x48]
  | .bit_1_C => [0xCB, 0x49]
  | .bit_1_D => [0xCB, 0x4A]
  | .bit_1_E => [0xCB, 0x4B]
  | .bit_1_H => [0xCB, 0x4C]
  | .bit_1_L => [0xCB, 0x4D]
  | .bit_1_mHL => [0xCB, 0x4E]
  | .bit_1_A => [0xCB, 0x4F]
  | .bit_2_B => [0xCB, 0x50]
  | .bit_2_C => [0xCB, 0x51]
  | .bit_2_D => [0xCB, 0x52]
  | .bit_2_E => [0xCB, 0x53]
  | .bit_2_H => [0xCB, 0x54]
  | .bit_2_L => [0xCB, 0x55]
  | .bit_2_mHL => [0xCB, 0x56]
  | .bit_2_A => [0xCB, 0x57]
  | .bit_3_B => [0xCB, 0x58]
  | .bit_3_C => [0xCB, 0x59]
  | .bit_3_D => [0xCB, 0x5A]
  | .bit_3_E => [0xCB, 0x5B]
  | .bit_3_H => [0xCB, 0x5C]
  | .bit_3_L => [0xCB, 0x5D]
  | .bit_3_mHL => [0xCB, 0x5E]
  | .bit_3_A => [0xCB, 0x5F]
  | .bit_4_B => [0xCB, 0x60]
  | .bit_4_C => [0xCB, 0x61]
  | .bit_4_D => [0xCB, 0x62]
  | .bit_4_E => [0xCB, 0x63]
  | .bit_4_H => [0xCB, 0x64]
  | .bit_4_L => [0xCB, 0x65]
  | .bit_4_mHL => [0xCB, 0x66]
  | .bit_4_A => [0xCB, 0x67]
  | .bit_5_B => [0xCB, 0x68]
  | .bit_5_C => [0xCB, 0x69]
  | .bit_5_D => [0xCB, 0x6A]
  | .bit_5_E => [0xCB, 0x6B]
  | .bit_5_H => [0xCB, 0x6C]
  | .bit_5_L => [0xCB, 0x6D]
  | .bit_5_mHL => [0xCB, 0x6E]
  | .bit_5_A => [0xCB, 0x6F]
  | .bit_6_B => [0xCB, 0x70]
  | .bit_6_C => [0xCB, 0x71]
  | .bit_6_D => [0xCB, 0x72]
  | .bit_6_E => [0xCB, 0x73]
  | .bit_6_H => [0xCB, 0x74]
  | .bit_6_L => [0xCB, 0x75]
  | .bit_6_mHL => [0xCB, 0x76]
  | .bit_6_A => [0xCB, 0x77]
  | .bit_7_B => [0xCB, 0x78]
  | .bit_7_C => [0xCB, 0x79]
  | .bit_7_D => [0xCB, 0x7A]
  | .bit_7_E => [0xCB, 0x7B]
  | .bit_7_H => [0xCB, 0x7C]
  | .bit_7_L => [0xCB, 0x7D]
  | .bit_7_mHL => [0xCB, 0x7E]
  | .bit_7_A => [0xCB, 0x7F]
  | .res_0_B => [0xCB, 0x80]
  | .res_0_C => [0xCB, 0x81]
  | .res_0_D => [0xCB, 0x82]
  | .res_0_E => [0xCB, 0x83]
  | .res_0_H => [0xCB, 0x84]
  | .res_0_L => [0xCB, 0x85]
  | .res_0_mHL => [0xCB, 0x86]
  | .res_0_A => [0xCB, 0x87]
  | .res_1_B => [0xCB, 0x88]
  | .res_1_C => [0xCB, 0x89]
  | .res_1_D => [0xCB, 0x8A]
  | .res_1_E => [0xCB, 0x8B]
  | .res_1_H => [0xCB, 0x8C]
  | .res_1_L => [0xCB, 0x8D]
  | .res_1_mHL => [0xCB, 0x8E]
  | .res_1_A => [0xCB, 0x8F]
  | .res_2_B => [0xCB, 0x90]
  | .res_2_C => [0xCB, 0x91]
  | .res_2_D => [0xCB, 0x92]
  | .res_2_E => [0xCB, 0x93]
  | .res_2_H => [0xCB, 0x94]
  | .res_2_L => [0xCB, 0x95]
  | .res_2_mHL => [0xCB, 0x96]
  | .res_2_A => [0xCB, 0x97]
  | .res_3_B => [0xCB, 0x98]
  | .res_3_C => [0xCB, 0x99]
  | .res_3_D => [0xCB, 0x9A]
  | .res_3_E => [0xCB, 0x9B]
  | .res_3_H => [0xCB, 0x9C]
  | .res_3_L => [0xCB, 0x9D]
  | .res_3_mHL => [0xCB, 0x9E]
  | .res_3_A => [0xCB, 0x9F]
  | .res_4_B => [0xCB, 0xA0]
  | .res_4_C => [0xCB, 0xA1]
  | .res_4_D => [0xCB, 0xA2]
  | .res_4_E => [0xCB, 0xA3]
  | .res_4_H => [0xCB, 0xA4]
  | .res_4_L => [0xCB, 0xA5]
  | .res_4_mHL => [0xCB, 0xA6]
  | .res_4_A => [0xCB, 0xA7]
  | .res_5_B => [0xCB, 0xA8]
  | .res_5_C => [0xCB, 0xA9]
  | .res_5_D => [0xCB, 0xAA]
  | .res_5_E => [0xCB, 0xAB]
  | .res_5_H => [0xCB, 0xAC]
  | .res_5_L => [0xCB, 0xAD]
  | .res_5_mHL => [0xCB, 0xAE]
  | .res_5_A => [0xCB, 0xAF]
  | .res_6_B => [0xCB, 0xB0]
  | .res_6_C => [0xCB, 0xB1]
  | .res_6_D => [0xCB, 0xB2]
  | .res_6_E => [0xCB, 0xB3]
  | .res_6_H => [0xCB, 0xB4]
  | .res_6_L => [0xCB, 0xB5]
  | .res_6_mHL => [0xCB, 0xB6]
  | .res_6_A => [0xCB, 0xB7]
  | .res_7_B => [0xCB, 0xB8]
  | .res_7_C => [0xCB, 0xB9]
  | .res_7_D => [0xCB, 0xBA]
  | .res_7_E => [0xCB, 0xBB]
  | .res_7_H => [0xCB, 0xBC]
  | .res_7_L => [0xCB, 0xBD]
  | .res_7_mHL => [0xCB, 0xBE]
  | .res_7_A => [0xCB, 0xBF]
  | .set_0_B => [0xCB, 0xC0]
  | .set_0_C => [0xCB, 0xC1]
  | .set_0_D => [0xCB, 0xC2]
  | .set_0_E => [0xCB, 0xC3]
  | .set_0_H => [0xCB, 0xC4]
  | .set_0_L => [0xCB, 0xC5]
  | .set_0_mHL => [0xCB, 0xC6]
  | .set_0_A => [0xCB, 0xC7]
  | .set_1_B => [0xCB, 0xC8]
  | .set_1_C => [0xCB, 0xC9]
  | .set_1_D => [0xCB, 0xCA]
  | .set_1_E => [0xCB, 0xCB]
  | .set_1_H => [0xCB, 0xCC]
  | .set_1_L => [0xCB, 0xCD]
  | .set_1_mHL => [0xCB, 0xCE]
  | .set_1_A => [0xCB, 0xCF]
  | .set_2_B => [0xCB, 0xD0]
  | .set_2_C => [0xCB, 0xD1]
  | .set_2_D => [0xCB, 0xD2]
  | .set_2_E => [0xCB, 0xD3]
  | .set_2_H => [0xCB, 0xD4]
  | .set_2_L => [0xCB, 0xD5]
  | .set_2_mHL => [0xCB, 0xD6]
  | .set_2_A => [0xCB, 0xD7]
  | .set_3_B => [0xCB, 0xD8]
  | .set_3_C => [0xCB, 0xD9]
  | .set_3_D => [0xCB, 0xDA]
  | .set_3_E => [0xCB, 0xDB]
  | .set_3_H => [0xCB, 0xDC]
  | .set_3_L => [0xCB, 0xDD]
  | .set_3_mHL => [0xCB, 0xDE]
  | .set_3_A => [0xCB, 0xDF]
  | .set_4_B => [0xCB, 0xE0]
  | .set_4_C => [0xCB, 0xE1]
  | .set_4_D => [0xCB, 0xE2]
  | .set_4_E => [0xCB, 0xE3]
  | .set_4_H => [0xCB, 0xE4]
  | .set_4_L => [0xCB, 0xE5]
  | .set_4_mHL => [0xCB, 0xE6]
  | .set_4_A => [0xCB, 0xE7]
  | .set_5_B => [0xCB, 0xE8]
  | .set_5_C => [0xCB, 0xE9]
  | .set_5_D => [0xCB, 0xEA]
  | .set_5_E => [0xCB, 0xEB]
  | .set_5_H => [0xCB, 0xEC]
  | .set_5_L => [0xCB, 0xED]
  | .set_5_mHL => [0xCB, 0xEE]
  | .set_5_A => [0xCB, 0xEF]
  | .set_6_B => [0xCB, 0xF0]
  | .set_6_C => [0xCB, 0xF1]
  | .set_6_D => [0xCB, 0xF2]
  | .set_6_E => [0xCB, 0xF3]
  | .set_6_H => [0xCB, 0xF4]
  | .set_6_L => [0xCB, 0xF5]
  | .set_6_mHL => [0xCB, 0xF6]
  | .set_6_A => [0xCB, 0xF7]
  | .set_7_B => [0xCB, 0xF8]
  | .set_7_C => [0xCB, 0xF9]
  | .set_7_D => [0xCB, 0xFA]
  | .set_7_E => [0xCB, 0xFB]
  | .set_7_H => [0xCB, 0xFC]
  | .set_7_L => [0xCB, 0xFD]
  | .set_7_mHL => [0xCB, 0xFE]
  | .set_7_A => [0xCB, 0xFF]

/-! ## The opcode table's numbering of an instruction's bits -/

/-- The three bytes of an instruction whose bits are `w`, zeros above `nbits`. The table numbers a CB row as one
number 0xCBxx, the prefix in bits 15..8 (its `match` and `fixed`); every other row has its first byte in bits
7..0 and later bytes above (log 9). -/
def tableBytes (nbits w : Nat) : Byte × Byte × Byte :=
  let v := w % 2 ^ nbits
  if nbits = 16 ∧ v / 256 = 0xCB then (0xCB, BitVec.ofNat 8 v, 0)
  else (BitVec.ofNat 8 v, BitVec.ofNat 8 (v / 256), BitVec.ofNat 8 (v / 65536))

/-- The instruction the decoder reads from the bits `w` of an opcode-table row. -/
def decodeTableWord (nbits w : Nat) : Option Instr :=
  match decode [(tableBytes nbits w).1, (tableBytes nbits w).2.1, (tableBytes nbits w).2.2] with
  | .ok (i, _) => some i
  | .error _ => none

end Sys2Proof
end

