-- ==== Sys2Proof/Machine/RotShiftBit.lean ====
section
/-! DEFINITION. Rotates, shifts and bit operations (45_rotate_shift_bit.md), and the CB prefix (47_system.md
R395). -/

namespace Sys2Proof.Machine

/-! ## Shared forms -/

/-- RLCA, RRCA, RLA and RRA: a rotate of A with Z forced to 0 (R320–R323, R167). -/
def rotateA (rot : Byte × FlagRec) (s : State) : Res :=
  finish 4 ((s.passBytes 1).putA (forceZClear rot))

/-- The operation of field y in the CB block x = 0 (R168, R169); RL and RR take the carry in. -/
def rotOn (op : RotOp) (v : Byte) (cin : Bool) : Byte × FlagRec :=
  match op with
  | .rlc => rotRlc v
  | .rrc => rotRrc v
  | .rl => rotRl v cin
  | .rr => rotRr v cin
  | .sla => shiftSla v
  | .sra => shiftSra v
  | .swap => swapNibbles v
  | .srl => shiftSrl v

/-- The CB rotates, shifts and SWAP on a register or on (HL) (R324–R339). -/
def cbRotate (op : RotOp) (o : Operand8) (s : State) : Res :=
  let s1 := s.passBytes 2
  let r := rotOn op (s1.readR8 o) s1.flagC
  finish (cyclesOn o 8 16) ((s1.writeR8 o r.1).applyFlags r.2)

/-- BIT b: flags only (R340, R341). -/
def cbBit (b : Fin 8) (o : Operand8) (s : State) : Res :=
  let s1 := s.passBytes 2
  finish (cyclesOn o 8 12) (s1.applyFlags (bitFlags b.val (s1.readR8 o)))

/-- RES b: `v AND NOT (1 << b)`, no flag (R342, R343). -/
def cbRes (b : Fin 8) (o : Operand8) (s : State) : Res :=
  let s1 := s.passBytes 2
  finish (cyclesOn o 8 16) (s1.writeR8 o (s1.readR8 o &&& ~~~(1#8 <<< b.val)))

/-- SET b: `v OR (1 << b)`, no flag (R344, R345). -/
def cbSet (b : Fin 8) (o : Operand8) (s : State) : Res :=
  let s1 := s.passBytes 2
  finish (cyclesOn o 8 16) (s1.writeR8 o (s1.readR8 o ||| (1#8 <<< b.val)))

/-- "Execute CB row xx" by the fields of R112 (R395). -/
def cbRow (xx : Byte) (s : State) : Res :=
  match (xField xx).toNat with
  | 0 => cbRotate (rotOf (yField xx)) (operand8 (zField xx)) s
  | 1 => cbBit (yField xx).toFin (operand8 (zField xx)) s
  | 2 => cbRes (yField xx).toFin (operand8 (zField xx)) s
  | _ => cbSet (yField xx).toFin (operand8 (zField xx)) s

/-! ## Meanings, one per row -/

/-- RLCA (R320). -/
def execRlca (s : State) : Res := rotateA (rotRlc s.a) s

/-- RRCA (R321). -/
def execRrca (s : State) : Res := rotateA (rotRrc s.a) s

/-- RLA (R322). -/
def execRla (s : State) : Res := rotateA (rotRl s.a s.flagC) s

/-- RRA (R323). -/
def execRra (s : State) : Res := rotateA (rotRr s.a s.flagC) s

/-- PREFIX CB (R395). -/
def execPrefix_CB (xx : Byte) (s : State) : Res := cbRow xx s

/-- RLC B (R324). -/
def execRlc_B (s : State) : Res := cbRotate .rlc (.reg .b) s

/-- RLC C (R324). -/
def execRlc_C (s : State) : Res := cbRotate .rlc (.reg .c) s

/-- RLC D (R324). -/
def execRlc_D (s : State) : Res := cbRotate .rlc (.reg .d) s

/-- RLC E (R324). -/
def execRlc_E (s : State) : Res := cbRotate .rlc (.reg .e) s

/-- RLC H (R324). -/
def execRlc_H (s : State) : Res := cbRotate .rlc (.reg .h) s

/-- RLC L (R324). -/
def execRlc_L (s : State) : Res := cbRotate .rlc (.reg .l) s

/-- RLC (HL) (R325). -/
def execRlc_mHL (s : State) : Res := cbRotate .rlc .memHL s

/-- RLC A (R324). -/
def execRlc_A (s : State) : Res := cbRotate .rlc (.reg .a) s

/-- RRC B (R326). -/
def execRrc_B (s : State) : Res := cbRotate .rrc (.reg .b) s

/-- RRC C (R326). -/
def execRrc_C (s : State) : Res := cbRotate .rrc (.reg .c) s

/-- RRC D (R326). -/
def execRrc_D (s : State) : Res := cbRotate .rrc (.reg .d) s

/-- RRC E (R326). -/
def execRrc_E (s : State) : Res := cbRotate .rrc (.reg .e) s

/-- RRC H (R326). -/
def execRrc_H (s : State) : Res := cbRotate .rrc (.reg .h) s

/-- RRC L (R326). -/
def execRrc_L (s : State) : Res := cbRotate .rrc (.reg .l) s

/-- RRC (HL) (R327). -/
def execRrc_mHL (s : State) : Res := cbRotate .rrc .memHL s

/-- RRC A (R326). -/
def execRrc_A (s : State) : Res := cbRotate .rrc (.reg .a) s

/-- RL B (R328). -/
def execRl_B (s : State) : Res := cbRotate .rl (.reg .b) s

/-- RL C (R328). -/
def execRl_C (s : State) : Res := cbRotate .rl (.reg .c) s

/-- RL D (R328). -/
def execRl_D (s : State) : Res := cbRotate .rl (.reg .d) s

/-- RL E (R328). -/
def execRl_E (s : State) : Res := cbRotate .rl (.reg .e) s

/-- RL H (R328). -/
def execRl_H (s : State) : Res := cbRotate .rl (.reg .h) s

/-- RL L (R328). -/
def execRl_L (s : State) : Res := cbRotate .rl (.reg .l) s

/-- RL (HL) (R329). -/
def execRl_mHL (s : State) : Res := cbRotate .rl .memHL s

/-- RL A (R328). -/
def execRl_A (s : State) : Res := cbRotate .rl (.reg .a) s

/-- RR B (R330). -/
def execRr_B (s : State) : Res := cbRotate .rr (.reg .b) s

/-- RR C (R330). -/
def execRr_C (s : State) : Res := cbRotate .rr (.reg .c) s

/-- RR D (R330). -/
def execRr_D (s : State) : Res := cbRotate .rr (.reg .d) s

/-- RR E (R330). -/
def execRr_E (s : State) : Res := cbRotate .rr (.reg .e) s

/-- RR H (R330). -/
def execRr_H (s : State) : Res := cbRotate .rr (.reg .h) s

/-- RR L (R330). -/
def execRr_L (s : State) : Res := cbRotate .rr (.reg .l) s

/-- RR (HL) (R331). -/
def execRr_mHL (s : State) : Res := cbRotate .rr .memHL s

/-- RR A (R330). -/
def execRr_A (s : State) : Res := cbRotate .rr (.reg .a) s

/-- SLA B (R332). -/
def execSla_B (s : State) : Res := cbRotate .sla (.reg .b) s

/-- SLA C (R332). -/
def execSla_C (s : State) : Res := cbRotate .sla (.reg .c) s

/-- SLA D (R332). -/
def execSla_D (s : State) : Res := cbRotate .sla (.reg .d) s

/-- SLA E (R332). -/
def execSla_E (s : State) : Res := cbRotate .sla (.reg .e) s

/-- SLA H (R332). -/
def execSla_H (s : State) : Res := cbRotate .sla (.reg .h) s

/-- SLA L (R332). -/
def execSla_L (s : State) : Res := cbRotate .sla (.reg .l) s

/-- SLA (HL) (R333). -/
def execSla_mHL (s : State) : Res := cbRotate .sla .memHL s

/-- SLA A (R332). -/
def execSla_A (s : State) : Res := cbRotate .sla (.reg .a) s

/-- SRA B (R334). -/
def execSra_B (s : State) : Res := cbRotate .sra (.reg .b) s

/-- SRA C (R334). -/
def execSra_C (s : State) : Res := cbRotate .sra (.reg .c) s

/-- SRA D (R334). -/
def execSra_D (s : State) : Res := cbRotate .sra (.reg .d) s

/-- SRA E (R334). -/
def execSra_E (s : State) : Res := cbRotate .sra (.reg .e) s

/-- SRA H (R334). -/
def execSra_H (s : State) : Res := cbRotate .sra (.reg .h) s

/-- SRA L (R334). -/
def execSra_L (s : State) : Res := cbRotate .sra (.reg .l) s

/-- SRA (HL) (R335). -/
def execSra_mHL (s : State) : Res := cbRotate .sra .memHL s

/-- SRA A (R334). -/
def execSra_A (s : State) : Res := cbRotate .sra (.reg .a) s

/-- SWAP B (R336). -/
def execSwap_B (s : State) : Res := cbRotate .swap (.reg .b) s

/-- SWAP C (R336). -/
def execSwap_C (s : State) : Res := cbRotate .swap (.reg .c) s

/-- SWAP D (R336). -/
def execSwap_D (s : State) : Res := cbRotate .swap (.reg .d) s

/-- SWAP E (R336). -/
def execSwap_E (s : State) : Res := cbRotate .swap (.reg .e) s

/-- SWAP H (R336). -/
def execSwap_H (s : State) : Res := cbRotate .swap (.reg .h) s

/-- SWAP L (R336). -/
def execSwap_L (s : State) : Res := cbRotate .swap (.reg .l) s

/-- SWAP (HL) (R337). -/
def execSwap_mHL (s : State) : Res := cbRotate .swap .memHL s

/-- SWAP A (R336). -/
def execSwap_A (s : State) : Res := cbRotate .swap (.reg .a) s

/-- SRL B (R338). -/
def execSrl_B (s : State) : Res := cbRotate .srl (.reg .b) s

/-- SRL C (R338). -/
def execSrl_C (s : State) : Res := cbRotate .srl (.reg .c) s

/-- SRL D (R338). -/
def execSrl_D (s : State) : Res := cbRotate .srl (.reg .d) s

/-- SRL E (R338). -/
def execSrl_E (s : State) : Res := cbRotate .srl (.reg .e) s

/-- SRL H (R338). -/
def execSrl_H (s : State) : Res := cbRotate .srl (.reg .h) s

/-- SRL L (R338). -/
def execSrl_L (s : State) : Res := cbRotate .srl (.reg .l) s

/-- SRL (HL) (R339). -/
def execSrl_mHL (s : State) : Res := cbRotate .srl .memHL s

/-- SRL A (R338). -/
def execSrl_A (s : State) : Res := cbRotate .srl (.reg .a) s

/-- BIT 0,B (R340). -/
def execBit_0_B (s : State) : Res := cbBit 0 (.reg .b) s

/-- BIT 0,C (R340). -/
def execBit_0_C (s : State) : Res := cbBit 0 (.reg .c) s

/-- BIT 0,D (R340). -/
def execBit_0_D (s : State) : Res := cbBit 0 (.reg .d) s

/-- BIT 0,E (R340). -/
def execBit_0_E (s : State) : Res := cbBit 0 (.reg .e) s

/-- BIT 0,H (R340). -/
def execBit_0_H (s : State) : Res := cbBit 0 (.reg .h) s

/-- BIT 0,L (R340). -/
def execBit_0_L (s : State) : Res := cbBit 0 (.reg .l) s

/-- BIT 0,(HL) (R341). -/
def execBit_0_mHL (s : State) : Res := cbBit 0 .memHL s

/-- BIT 0,A (R340). -/
def execBit_0_A (s : State) : Res := cbBit 0 (.reg .a) s

/-- BIT 1,B (R340). -/
def execBit_1_B (s : State) : Res := cbBit 1 (.reg .b) s

/-- BIT 1,C (R340). -/
def execBit_1_C (s : State) : Res := cbBit 1 (.reg .c) s

/-- BIT 1,D (R340). -/
def execBit_1_D (s : State) : Res := cbBit 1 (.reg .d) s

/-- BIT 1,E (R340). -/
def execBit_1_E (s : State) : Res := cbBit 1 (.reg .e) s

/-- BIT 1,H (R340). -/
def execBit_1_H (s : State) : Res := cbBit 1 (.reg .h) s

/-- BIT 1,L (R340). -/
def execBit_1_L (s : State) : Res := cbBit 1 (.reg .l) s

/-- BIT 1,(HL) (R341). -/
def execBit_1_mHL (s : State) : Res := cbBit 1 .memHL s

/-- BIT 1,A (R340). -/
def execBit_1_A (s : State) : Res := cbBit 1 (.reg .a) s

/-- BIT 2,B (R340). -/
def execBit_2_B (s : State) : Res := cbBit 2 (.reg .b) s

/-- BIT 2,C (R340). -/
def execBit_2_C (s : State) : Res := cbBit 2 (.reg .c) s

/-- BIT 2,D (R340). -/
def execBit_2_D (s : State) : Res := cbBit 2 (.reg .d) s

/-- BIT 2,E (R340). -/
def execBit_2_E (s : State) : Res := cbBit 2 (.reg .e) s

/-- BIT 2,H (R340). -/
def execBit_2_H (s : State) : Res := cbBit 2 (.reg .h) s

/-- BIT 2,L (R340). -/
def execBit_2_L (s : State) : Res := cbBit 2 (.reg .l) s

/-- BIT 2,(HL) (R341). -/
def execBit_2_mHL (s : State) : Res := cbBit 2 .memHL s

/-- BIT 2,A (R340). -/
def execBit_2_A (s : State) : Res := cbBit 2 (.reg .a) s

/-- BIT 3,B (R340). -/
def execBit_3_B (s : State) : Res := cbBit 3 (.reg .b) s

/-- BIT 3,C (R340). -/
def execBit_3_C (s : State) : Res := cbBit 3 (.reg .c) s

/-- BIT 3,D (R340). -/
def execBit_3_D (s : State) : Res := cbBit 3 (.reg .d) s

/-- BIT 3,E (R340). -/
def execBit_3_E (s : State) : Res := cbBit 3 (.reg .e) s

/-- BIT 3,H (R340). -/
def execBit_3_H (s : State) : Res := cbBit 3 (.reg .h) s

/-- BIT 3,L (R340). -/
def execBit_3_L (s : State) : Res := cbBit 3 (.reg .l) s

/-- BIT 3,(HL) (R341). -/
def execBit_3_mHL (s : State) : Res := cbBit 3 .memHL s

/-- BIT 3,A (R340). -/
def execBit_3_A (s : State) : Res := cbBit 3 (.reg .a) s

/-- BIT 4,B (R340). -/
def execBit_4_B (s : State) : Res := cbBit 4 (.reg .b) s

/-- BIT 4,C (R340). -/
def execBit_4_C (s : State) : Res := cbBit 4 (.reg .c) s

/-- BIT 4,D (R340). -/
def execBit_4_D (s : State) : Res := cbBit 4 (.reg .d) s

/-- BIT 4,E (R340). -/
def execBit_4_E (s : State) : Res := cbBit 4 (.reg .e) s

/-- BIT 4,H (R340). -/
def execBit_4_H (s : State) : Res := cbBit 4 (.reg .h) s

/-- BIT 4,L (R340). -/
def execBit_4_L (s : State) : Res := cbBit 4 (.reg .l) s

/-- BIT 4,(HL) (R341). -/
def execBit_4_mHL (s : State) : Res := cbBit 4 .memHL s

/-- BIT 4,A (R340). -/
def execBit_4_A (s : State) : Res := cbBit 4 (.reg .a) s

/-- BIT 5,B (R340). -/
def execBit_5_B (s : State) : Res := cbBit 5 (.reg .b) s

/-- BIT 5,C (R340). -/
def execBit_5_C (s : State) : Res := cbBit 5 (.reg .c) s

/-- BIT 5,D (R340). -/
def execBit_5_D (s : State) : Res := cbBit 5 (.reg .d) s

/-- BIT 5,E (R340). -/
def execBit_5_E (s : State) : Res := cbBit 5 (.reg .e) s

/-- BIT 5,H (R340). -/
def execBit_5_H (s : State) : Res := cbBit 5 (.reg .h) s

/-- BIT 5,L (R340). -/
def execBit_5_L (s : State) : Res := cbBit 5 (.reg .l) s

/-- BIT 5,(HL) (R341). -/
def execBit_5_mHL (s : State) : Res := cbBit 5 .memHL s

/-- BIT 5,A (R340). -/
def execBit_5_A (s : State) : Res := cbBit 5 (.reg .a) s

/-- BIT 6,B (R340). -/
def execBit_6_B (s : State) : Res := cbBit 6 (.reg .b) s

/-- BIT 6,C (R340). -/
def execBit_6_C (s : State) : Res := cbBit 6 (.reg .c) s

/-- BIT 6,D (R340). -/
def execBit_6_D (s : State) : Res := cbBit 6 (.reg .d) s

/-- BIT 6,E (R340). -/
def execBit_6_E (s : State) : Res := cbBit 6 (.reg .e) s

/-- BIT 6,H (R340). -/
def execBit_6_H (s : State) : Res := cbBit 6 (.reg .h) s

/-- BIT 6,L (R340). -/
def execBit_6_L (s : State) : Res := cbBit 6 (.reg .l) s

/-- BIT 6,(HL) (R341). -/
def execBit_6_mHL (s : State) : Res := cbBit 6 .memHL s

/-- BIT 6,A (R340). -/
def execBit_6_A (s : State) : Res := cbBit 6 (.reg .a) s

/-- BIT 7,B (R340). -/
def execBit_7_B (s : State) : Res := cbBit 7 (.reg .b) s

/-- BIT 7,C (R340). -/
def execBit_7_C (s : State) : Res := cbBit 7 (.reg .c) s

/-- BIT 7,D (R340). -/
def execBit_7_D (s : State) : Res := cbBit 7 (.reg .d) s

/-- BIT 7,E (R340). -/
def execBit_7_E (s : State) : Res := cbBit 7 (.reg .e) s

/-- BIT 7,H (R340). -/
def execBit_7_H (s : State) : Res := cbBit 7 (.reg .h) s

/-- BIT 7,L (R340). -/
def execBit_7_L (s : State) : Res := cbBit 7 (.reg .l) s

/-- BIT 7,(HL) (R341). -/
def execBit_7_mHL (s : State) : Res := cbBit 7 .memHL s

/-- BIT 7,A (R340). -/
def execBit_7_A (s : State) : Res := cbBit 7 (.reg .a) s

/-- RES 0,B (R342). -/
def execRes_0_B (s : State) : Res := cbRes 0 (.reg .b) s

/-- RES 0,C (R342). -/
def execRes_0_C (s : State) : Res := cbRes 0 (.reg .c) s

/-- RES 0,D (R342). -/
def execRes_0_D (s : State) : Res := cbRes 0 (.reg .d) s

/-- RES 0,E (R342). -/
def execRes_0_E (s : State) : Res := cbRes 0 (.reg .e) s

/-- RES 0,H (R342). -/
def execRes_0_H (s : State) : Res := cbRes 0 (.reg .h) s

/-- RES 0,L (R342). -/
def execRes_0_L (s : State) : Res := cbRes 0 (.reg .l) s

/-- RES 0,(HL) (R343). -/
def execRes_0_mHL (s : State) : Res := cbRes 0 .memHL s

/-- RES 0,A (R342). -/
def execRes_0_A (s : State) : Res := cbRes 0 (.reg .a) s

/-- RES 1,B (R342). -/
def execRes_1_B (s : State) : Res := cbRes 1 (.reg .b) s

/-- RES 1,C (R342). -/
def execRes_1_C (s : State) : Res := cbRes 1 (.reg .c) s

/-- RES 1,D (R342). -/
def execRes_1_D (s : State) : Res := cbRes 1 (.reg .d) s

/-- RES 1,E (R342). -/
def execRes_1_E (s : State) : Res := cbRes 1 (.reg .e) s

/-- RES 1,H (R342). -/
def execRes_1_H (s : State) : Res := cbRes 1 (.reg .h) s

/-- RES 1,L (R342). -/
def execRes_1_L (s : State) : Res := cbRes 1 (.reg .l) s

/-- RES 1,(HL) (R343). -/
def execRes_1_mHL (s : State) : Res := cbRes 1 .memHL s

/-- RES 1,A (R342). -/
def execRes_1_A (s : State) : Res := cbRes 1 (.reg .a) s

/-- RES 2,B (R342). -/
def execRes_2_B (s : State) : Res := cbRes 2 (.reg .b) s

/-- RES 2,C (R342). -/
def execRes_2_C (s : State) : Res := cbRes 2 (.reg .c) s

/-- RES 2,D (R342). -/
def execRes_2_D (s : State) : Res := cbRes 2 (.reg .d) s

/-- RES 2,E (R342). -/
def execRes_2_E (s : State) : Res := cbRes 2 (.reg .e) s

/-- RES 2,H (R342). -/
def execRes_2_H (s : State) : Res := cbRes 2 (.reg .h) s

/-- RES 2,L (R342). -/
def execRes_2_L (s : State) : Res := cbRes 2 (.reg .l) s

/-- RES 2,(HL) (R343). -/
def execRes_2_mHL (s : State) : Res := cbRes 2 .memHL s

/-- RES 2,A (R342). -/
def execRes_2_A (s : State) : Res := cbRes 2 (.reg .a) s

/-- RES 3,B (R342). -/
def execRes_3_B (s : State) : Res := cbRes 3 (.reg .b) s

/-- RES 3,C (R342). -/
def execRes_3_C (s : State) : Res := cbRes 3 (.reg .c) s

/-- RES 3,D (R342). -/
def execRes_3_D (s : State) : Res := cbRes 3 (.reg .d) s

/-- RES 3,E (R342). -/
def execRes_3_E (s : State) : Res := cbRes 3 (.reg .e) s

/-- RES 3,H (R342). -/
def execRes_3_H (s : State) : Res := cbRes 3 (.reg .h) s

/-- RES 3,L (R342). -/
def execRes_3_L (s : State) : Res := cbRes 3 (.reg .l) s

/-- RES 3,(HL) (R343). -/
def execRes_3_mHL (s : State) : Res := cbRes 3 .memHL s

/-- RES 3,A (R342). -/
def execRes_3_A (s : State) : Res := cbRes 3 (.reg .a) s

/-- RES 4,B (R342). -/
def execRes_4_B (s : State) : Res := cbRes 4 (.reg .b) s

/-- RES 4,C (R342). -/
def execRes_4_C (s : State) : Res := cbRes 4 (.reg .c) s

/-- RES 4,D (R342). -/
def execRes_4_D (s : State) : Res := cbRes 4 (.reg .d) s

/-- RES 4,E (R342). -/
def execRes_4_E (s : State) : Res := cbRes 4 (.reg .e) s

/-- RES 4,H (R342). -/
def execRes_4_H (s : State) : Res := cbRes 4 (.reg .h) s

/-- RES 4,L (R342). -/
def execRes_4_L (s : State) : Res := cbRes 4 (.reg .l) s

/-- RES 4,(HL) (R343). -/
def execRes_4_mHL (s : State) : Res := cbRes 4 .memHL s

/-- RES 4,A (R342). -/
def execRes_4_A (s : State) : Res := cbRes 4 (.reg .a) s

/-- RES 5,B (R342). -/
def execRes_5_B (s : State) : Res := cbRes 5 (.reg .b) s

/-- RES 5,C (R342). -/
def execRes_5_C (s : State) : Res := cbRes 5 (.reg .c) s

/-- RES 5,D (R342). -/
def execRes_5_D (s : State) : Res := cbRes 5 (.reg .d) s

/-- RES 5,E (R342). -/
def execRes_5_E (s : State) : Res := cbRes 5 (.reg .e) s

/-- RES 5,H (R342). -/
def execRes_5_H (s : State) : Res := cbRes 5 (.reg .h) s

/-- RES 5,L (R342). -/
def execRes_5_L (s : State) : Res := cbRes 5 (.reg .l) s

/-- RES 5,(HL) (R343). -/
def execRes_5_mHL (s : State) : Res := cbRes 5 .memHL s

/-- RES 5,A (R342). -/
def execRes_5_A (s : State) : Res := cbRes 5 (.reg .a) s

/-- RES 6,B (R342). -/
def execRes_6_B (s : State) : Res := cbRes 6 (.reg .b) s

/-- RES 6,C (R342). -/
def execRes_6_C (s : State) : Res := cbRes 6 (.reg .c) s

/-- RES 6,D (R342). -/
def execRes_6_D (s : State) : Res := cbRes 6 (.reg .d) s

/-- RES 6,E (R342). -/
def execRes_6_E (s : State) : Res := cbRes 6 (.reg .e) s

/-- RES 6,H (R342). -/
def execRes_6_H (s : State) : Res := cbRes 6 (.reg .h) s

/-- RES 6,L (R342). -/
def execRes_6_L (s : State) : Res := cbRes 6 (.reg .l) s

/-- RES 6,(HL) (R343). -/
def execRes_6_mHL (s : State) : Res := cbRes 6 .memHL s

/-- RES 6,A (R342). -/
def execRes_6_A (s : State) : Res := cbRes 6 (.reg .a) s

/-- RES 7,B (R342). -/
def execRes_7_B (s : State) : Res := cbRes 7 (.reg .b) s

/-- RES 7,C (R342). -/
def execRes_7_C (s : State) : Res := cbRes 7 (.reg .c) s

/-- RES 7,D (R342). -/
def execRes_7_D (s : State) : Res := cbRes 7 (.reg .d) s

/-- RES 7,E (R342). -/
def execRes_7_E (s : State) : Res := cbRes 7 (.reg .e) s

/-- RES 7,H (R342). -/
def execRes_7_H (s : State) : Res := cbRes 7 (.reg .h) s

/-- RES 7,L (R342). -/
def execRes_7_L (s : State) : Res := cbRes 7 (.reg .l) s

/-- RES 7,(HL) (R343). -/
def execRes_7_mHL (s : State) : Res := cbRes 7 .memHL s

/-- RES 7,A (R342). -/
def execRes_7_A (s : State) : Res := cbRes 7 (.reg .a) s

/-- SET 0,B (R344). -/
def execSet_0_B (s : State) : Res := cbSet 0 (.reg .b) s

/-- SET 0,C (R344). -/
def execSet_0_C (s : State) : Res := cbSet 0 (.reg .c) s

/-- SET 0,D (R344). -/
def execSet_0_D (s : State) : Res := cbSet 0 (.reg .d) s

/-- SET 0,E (R344). -/
def execSet_0_E (s : State) : Res := cbSet 0 (.reg .e) s

/-- SET 0,H (R344). -/
def execSet_0_H (s : State) : Res := cbSet 0 (.reg .h) s

/-- SET 0,L (R344). -/
def execSet_0_L (s : State) : Res := cbSet 0 (.reg .l) s

/-- SET 0,(HL) (R345). -/
def execSet_0_mHL (s : State) : Res := cbSet 0 .memHL s

/-- SET 0,A (R344). -/
def execSet_0_A (s : State) : Res := cbSet 0 (.reg .a) s

/-- SET 1,B (R344). -/
def execSet_1_B (s : State) : Res := cbSet 1 (.reg .b) s

/-- SET 1,C (R344). -/
def execSet_1_C (s : State) : Res := cbSet 1 (.reg .c) s

/-- SET 1,D (R344). -/
def execSet_1_D (s : State) : Res := cbSet 1 (.reg .d) s

/-- SET 1,E (R344). -/
def execSet_1_E (s : State) : Res := cbSet 1 (.reg .e) s

/-- SET 1,H (R344). -/
def execSet_1_H (s : State) : Res := cbSet 1 (.reg .h) s

/-- SET 1,L (R344). -/
def execSet_1_L (s : State) : Res := cbSet 1 (.reg .l) s

/-- SET 1,(HL) (R345). -/
def execSet_1_mHL (s : State) : Res := cbSet 1 .memHL s

/-- SET 1,A (R344). -/
def execSet_1_A (s : State) : Res := cbSet 1 (.reg .a) s

/-- SET 2,B (R344). -/
def execSet_2_B (s : State) : Res := cbSet 2 (.reg .b) s

/-- SET 2,C (R344). -/
def execSet_2_C (s : State) : Res := cbSet 2 (.reg .c) s

/-- SET 2,D (R344). -/
def execSet_2_D (s : State) : Res := cbSet 2 (.reg .d) s

/-- SET 2,E (R344). -/
def execSet_2_E (s : State) : Res := cbSet 2 (.reg .e) s

/-- SET 2,H (R344). -/
def execSet_2_H (s : State) : Res := cbSet 2 (.reg .h) s

/-- SET 2,L (R344). -/
def execSet_2_L (s : State) : Res := cbSet 2 (.reg .l) s

/-- SET 2,(HL) (R345). -/
def execSet_2_mHL (s : State) : Res := cbSet 2 .memHL s

/-- SET 2,A (R344). -/
def execSet_2_A (s : State) : Res := cbSet 2 (.reg .a) s

/-- SET 3,B (R344). -/
def execSet_3_B (s : State) : Res := cbSet 3 (.reg .b) s

/-- SET 3,C (R344). -/
def execSet_3_C (s : State) : Res := cbSet 3 (.reg .c) s

/-- SET 3,D (R344). -/
def execSet_3_D (s : State) : Res := cbSet 3 (.reg .d) s

/-- SET 3,E (R344). -/
def execSet_3_E (s : State) : Res := cbSet 3 (.reg .e) s

/-- SET 3,H (R344). -/
def execSet_3_H (s : State) : Res := cbSet 3 (.reg .h) s

/-- SET 3,L (R344). -/
def execSet_3_L (s : State) : Res := cbSet 3 (.reg .l) s

/-- SET 3,(HL) (R345). -/
def execSet_3_mHL (s : State) : Res := cbSet 3 .memHL s

/-- SET 3,A (R344). -/
def execSet_3_A (s : State) : Res := cbSet 3 (.reg .a) s

/-- SET 4,B (R344). -/
def execSet_4_B (s : State) : Res := cbSet 4 (.reg .b) s

/-- SET 4,C (R344). -/
def execSet_4_C (s : State) : Res := cbSet 4 (.reg .c) s

/-- SET 4,D (R344). -/
def execSet_4_D (s : State) : Res := cbSet 4 (.reg .d) s

/-- SET 4,E (R344). -/
def execSet_4_E (s : State) : Res := cbSet 4 (.reg .e) s

/-- SET 4,H (R344). -/
def execSet_4_H (s : State) : Res := cbSet 4 (.reg .h) s

/-- SET 4,L (R344). -/
def execSet_4_L (s : State) : Res := cbSet 4 (.reg .l) s

/-- SET 4,(HL) (R345). -/
def execSet_4_mHL (s : State) : Res := cbSet 4 .memHL s

/-- SET 4,A (R344). -/
def execSet_4_A (s : State) : Res := cbSet 4 (.reg .a) s

/-- SET 5,B (R344). -/
def execSet_5_B (s : State) : Res := cbSet 5 (.reg .b) s

/-- SET 5,C (R344). -/
def execSet_5_C (s : State) : Res := cbSet 5 (.reg .c) s

/-- SET 5,D (R344). -/
def execSet_5_D (s : State) : Res := cbSet 5 (.reg .d) s

/-- SET 5,E (R344). -/
def execSet_5_E (s : State) : Res := cbSet 5 (.reg .e) s

/-- SET 5,H (R344). -/
def execSet_5_H (s : State) : Res := cbSet 5 (.reg .h) s

/-- SET 5,L (R344). -/
def execSet_5_L (s : State) : Res := cbSet 5 (.reg .l) s

/-- SET 5,(HL) (R345). -/
def execSet_5_mHL (s : State) : Res := cbSet 5 .memHL s

/-- SET 5,A (R344). -/
def execSet_5_A (s : State) : Res := cbSet 5 (.reg .a) s

/-- SET 6,B (R344). -/
def execSet_6_B (s : State) : Res := cbSet 6 (.reg .b) s

/-- SET 6,C (R344). -/
def execSet_6_C (s : State) : Res := cbSet 6 (.reg .c) s

/-- SET 6,D (R344). -/
def execSet_6_D (s : State) : Res := cbSet 6 (.reg .d) s

/-- SET 6,E (R344). -/
def execSet_6_E (s : State) : Res := cbSet 6 (.reg .e) s

/-- SET 6,H (R344). -/
def execSet_6_H (s : State) : Res := cbSet 6 (.reg .h) s

/-- SET 6,L (R344). -/
def execSet_6_L (s : State) : Res := cbSet 6 (.reg .l) s

/-- SET 6,(HL) (R345). -/
def execSet_6_mHL (s : State) : Res := cbSet 6 .memHL s

/-- SET 6,A (R344). -/
def execSet_6_A (s : State) : Res := cbSet 6 (.reg .a) s

/-- SET 7,B (R344). -/
def execSet_7_B (s : State) : Res := cbSet 7 (.reg .b) s

/-- SET 7,C (R344). -/
def execSet_7_C (s : State) : Res := cbSet 7 (.reg .c) s

/-- SET 7,D (R344). -/
def execSet_7_D (s : State) : Res := cbSet 7 (.reg .d) s

/-- SET 7,E (R344). -/
def execSet_7_E (s : State) : Res := cbSet 7 (.reg .e) s

/-- SET 7,H (R344). -/
def execSet_7_H (s : State) : Res := cbSet 7 (.reg .h) s

/-- SET 7,L (R344). -/
def execSet_7_L (s : State) : Res := cbSet 7 (.reg .l) s

/-- SET 7,(HL) (R345). -/
def execSet_7_mHL (s : State) : Res := cbSet 7 .memHL s

/-- SET 7,A (R344). -/
def execSet_7_A (s : State) : Res := cbSet 7 (.reg .a) s

end Sys2Proof.Machine
end

