-- ==== Sys2Proof/Machine/System.lean ====
section
/-! DEFINITION. The system instructions and the undefined opcodes (47_system.md R390–R396). -/

namespace Sys2Proof.Machine

/-! ## Shared forms -/

/-- HALT (R391): with IME = 0 and an interrupt pending the HALT bug, otherwise the core halts. -/
def haltCore (s : State) : Res :=
  let s1 := s.passBytes 1
  if !s1.ime && s1.input.irqPending then finish 4 { s1 with haltBug := true }
  else finish 4 { s1 with run := .halted }

/-- STOP: byte 1 is fetched and ignored (R392). -/
def stopCore (_ignored : Byte) (s : State) : Res :=
  finish 4 { s.passBytes 2 with run := .stopped }

/-- DI (R393). -/
def disableInterrupts (s : State) : Res :=
  finish 4 { s.passBytes 1 with ime := false, eiPending := false }

/-- EI: IME follows one instruction later (R394, R400 phase 5). -/
def enableInterrupts (s : State) : Res :=
  finish 4 { s.passBytes 1 with eiPending := true }

/-- An undefined opcode under the configured policy (R396, R421). -/
def undefinedOpcode (u : UndefOp) (s : State) : Res :=
  match s.cfg.illegalPolicy with
  | .lock => .next (s.lockAtOpcode u.byte)
  | .nop => .next (s.skipOpcode u.byte)

/-! ## Meanings, one per row -/

/-- NOP (R390). -/
def execNop (s : State) : Res := finish 4 (s.passBytes 1)

/-- STOP (R392). -/
def execStop (ignored : Byte) (s : State) : Res := stopCore ignored s

/-- HALT (R391). -/
def execHalt (s : State) : Res := haltCore s

/-- ILLEGAL D3 (R396). -/
def execUndef_D3 (s : State) : Res := undefinedOpcode .opD3 s

/-- ILLEGAL DB (R396). -/
def execUndef_DB (s : State) : Res := undefinedOpcode .opDB s

/-- ILLEGAL DD (R396). -/
def execUndef_DD (s : State) : Res := undefinedOpcode .opDD s

/-- ILLEGAL E3 (R396). -/
def execUndef_E3 (s : State) : Res := undefinedOpcode .opE3 s

/-- ILLEGAL E4 (R396). -/
def execUndef_E4 (s : State) : Res := undefinedOpcode .opE4 s

/-- ILLEGAL EB (R396). -/
def execUndef_EB (s : State) : Res := undefinedOpcode .opEB s

/-- ILLEGAL EC (R396). -/
def execUndef_EC (s : State) : Res := undefinedOpcode .opEC s

/-- ILLEGAL ED (R396). -/
def execUndef_ED (s : State) : Res := undefinedOpcode .opED s

/-- DI (R393). -/
def execDi (s : State) : Res := disableInterrupts s

/-- ILLEGAL F4 (R396). -/
def execUndef_F4 (s : State) : Res := undefinedOpcode .opF4 s

/-- EI (R394). -/
def execEi (s : State) : Res := enableInterrupts s

/-- ILLEGAL FC (R396). -/
def execUndef_FC (s : State) : Res := undefinedOpcode .opFC s

/-- ILLEGAL FD (R396). -/
def execUndef_FD (s : State) : Res := undefinedOpcode .opFD s

end Sys2Proof.Machine
end

