-- ==== Sys2Proof/Machine/Phases.lean ====
section
/-! DEFINITION. The phases of the step (47_system.md R400), and the fetch of an instruction. -/

namespace Sys2Proof.Machine

namespace State

/-- The next step input: the head of the queue, or the empty input (R401; log 3). -/
def nextInput (s : State) : StepInput := s.inputs.headD StepInput.empty

/-- A step starts: its input is taken from the queue. -/
def takeInput (s : State) : State := { s with input := s.nextInput, inputs := s.inputs.tail }

/-- The instruction at PC: three bytes are fetched in order and decoded; reads have no side effect
(20_memory.md R84), so the bytes past the instruction's length do not matter. A set `halt_bug` makes byte 0
read twice (10_state.md R45). -/
def fetchInstr (s : State) : Instr :=
  decodeBytes s.fetch8.1 (s.passBytes 1).fetch8.1 (s.passBytes 2).fetch8.1

/-- Phase 5, EI promotion. -/
def promoteEI (s : State) : State :=
  if s.eiPending then { s with eiPending := false, ime := true } else s

/-- Phase 1, Locked: nothing changes; 4 cycles and `illegal`. -/
def lockedPhase (op : Byte) (addr : Word) (s : State) : State := s.reportIllegal 4 op addr

/-- Phase 2, Stopped: `joypad_wake` sets Running; 4 cycles. -/
def stoppedPhase (s : State) : State :=
  (if s.input.joypadWake then { s with run := .running } else s : State).report 4

/-- Phase 4, Halted: `irq_pending` sets Running; 4 cycles. -/
def haltedPhase (s : State) : State :=
  (if s.input.irqPending then { s with run := .running } else s : State).report 4

/-- The vector accepted in phase 3: a request with IME = 1 (R430). -/
def acceptedRequest (s : State) : Option Word := if s.ime then s.input.request else none

end State

/-- Phases 5 and 6: EI promotion, then the instruction at PC. -/
def executePhase (s : State) : Res := exec s.promoteEI.fetchInstr s.promoteEI

/-- The first phase of R400 that applies to a state whose input is taken. -/
def runPhase (s : State) : Res :=
  match s.run with
  | .locked op addr => .next (s.lockedPhase op addr)
  | .stopped => .next s.stoppedPhase
  | .halted =>
    match s.acceptedRequest with
    | some v => .next (s.dispatchInterrupt v)
    | none => .next s.haltedPhase
  | .running =>
    match s.acceptedRequest with
    | some v => .next (s.dispatchInterrupt v)
    | none => executePhase s

namespace State

/-- Store the bytes from `a` on, through `write8` (20_memory.md R92). -/
def storeBytes (a : Word) : List Byte → State → State
  | [], s => s
  | v :: rest, s => storeBytes (a + 1) rest (s.write8 a v)

/-- The `n` bytes from `a` on are all cells that keep what is stored. -/
def storable (a : Word) (n : Nat) : Bool := (List.range n).all fun k => !unusable (a + BitVec.ofNat 16 k).toNat

/-- What the next step needs in order to fetch at PC and run: no lock, halt or stop, no doubled byte, no request
in the next input, and, where the `n` bytes at PC cannot hold an instruction (20_memory.md R75), PC at the entry
point 0x0100 (log 10). -/
def readyToFetch (n : Nat) (s : State) : State :=
  { s with
    run := .running
    haltBug := false
    pc := if storable s.pc n then s.pc else 0x0100
    inputs := match s.inputs with
      | [] => []
      | x :: rest => { x with request := none } :: rest }

/-- Place the three bytes at PC, ready to be fetched by the next step. -/
def placeBytes (b0 b1 b2 : Byte) (s : State) : State :=
  let s1 := s.readyToFetch (lengthOf b0)
  s1.storeBytes s1.pc ([b0, b1, b2].take (lengthOf b0))

end State

end Sys2Proof.Machine
end

