-- ==== Sys2Proof/Machine/Step.lean ====
section
/-! DEFINITION. The step (47_system.md R400–R402) and the placing of an instruction for the next step. -/

namespace Sys2Proof.Machine

/-- One step: the next input is taken, then the first phase that applies runs. -/
def step (s : State) : Host.Outcome State Fault Refusal := runPhase s.takeInput

/-- The spec's `step` with its input as an argument (R401): `input` goes before those that wait. -/
def stepWith (input : StepInput) (s : State) : Host.Outcome State Fault Refusal :=
  step { s with inputs := input :: s.inputs }

/-- `s` with the instruction of the table's bits `w` where the next step fetches (log 10). -/
def State.withFetchWord (s : State) (nbits w : Nat) : State :=
  s.placeBytes (tableBytes nbits w).1 (tableBytes nbits w).2.1 (tableBytes nbits w).2.2

end Sys2Proof.Machine
end

