-- ==== Sys2Proof/Machine/Reset.lean ====
section
/-! DEFINITION. Reset as an operation (70_reset_and_hazards.md R460, R461): a fresh core with the loader's
image and the parameters of R8. `State.reset` is the case of the default parameters and no image. -/

namespace Sys2Proof.Machine

namespace State

/-- The profile POWER_ON (R461): every register, SP and PC zero; the hidden state as in R460. The rule says
that no model may rely on these register values (log 17). -/
def powerOn : State :=
  { reset with a := 0, f := 0, b := 0, c := 0, d := 0, e := 0, h := 0, l := 0, sp := 0, pc := 0 }

/-- The registers of the profile (R460, R461). -/
def ofProfile : ResetProfile → State
  | .dmgPostBoot => reset
  | .powerOn => powerOn

/-- Reset builds a new instance (R460): registers by the profile, memory the loader's image (R91). -/
def boot (cfg : Config) (image : List Byte) : State :=
  { ofProfile cfg.resetProfile with cfg := cfg, mem := Memory.ofImage image }

end State

end Sys2Proof.Machine
end

