-- ==== Sys2Proof/Machine/Harness.lean ====
section
/-! DEFINITION. Access by a collaborator between steps (10_state.md R46; 20_memory.md R92;
60_exceptions.md R444; D17, D19): not a step, no cycles, no instruction. -/

namespace Sys2Proof.Machine

/-- One write by a harness or a peripheral between two steps. -/
inductive HarnessWrite where
  | reg8 (r : Reg8) (v : Byte)
  /-- F alone, masked (R33, R46). -/
  | regF (v : Byte)
  /-- A pair or AF, F masked. -/
  | pair (p : Reg16S) (v : Word)
  | flag (k : FlagKind) (v : Bool)
  | sp (v : Word)
  | pc (v : Word)
  /-- A memory cell, through `write8`: mirrored and discarded as a core write is (R92). -/
  | cell (a : Word) (v : Byte)
  | ime (v : Bool)
  | eiPending (v : Bool)
  | haltBug (v : Bool)
  | run (r : Run)
deriving DecidableEq, Repr

namespace State

/-- Apply a harness write. -/
def harnessWrite (w : HarnessWrite) (s : State) : State :=
  match w with
  | .reg8 r v => s.setReg8 r v
  | .regF v => s.setF v
  | .pair p v => s.setReg16S p v
  | .flag k v => { s with f := setFlag k v s.f }
  | .sp v => { s with sp := v }
  | .pc v => { s with pc := v }
  | .cell a v => s.write8 a v
  | .ime v => { s with ime := v }
  | .eiPending v => { s with eiPending := v }
  | .haltBug v => { s with haltBug := v }
  | .run r => { s with run := r }

/-- Put a controller's input at the end of the queue (47_system.md R401). -/
def present (x : StepInput) (s : State) : State := { s with inputs := s.inputs ++ [x] }

end State

end Sys2Proof.Machine
end

