-- ==== Sys2Proof/Machine/Run.lean ====
section
/-! DEFINITION. A program's run (47_system.md R402): the fold of the step over its inputs, with collaborator
writes allowed between steps (20_memory.md R92). -/

namespace Sys2Proof.Machine

/-- One event at an instruction boundary. -/
inductive Event where
  | step (x : StepInput)
  | access (w : HarnessWrite)
deriving DecidableEq, Repr

/-- The events in order, stopping where a step has no next state. -/
def runEvents : List Event → State → Res
  | [], s => .next s
  | .access w :: rest, s => runEvents rest (s.harnessWrite w)
  | .step x :: rest, s =>
    match stepWith x s with
    | .next s' => runEvents rest s'
    | .fault r => .fault r
    | .refused r => .refused r

end Sys2Proof.Machine
end

