-- ==== Sys2Proof/Safety.lean ====
section
/-! DEFINITION. The terms the claims use: the operand codes of the encoding, what an ordinary instruction leaves
unchanged, where a store lands, the bits a rotate moves, and the invariant of every reachable state. -/

namespace Sys2Proof

/-! ## Operand codes (30_encoding.md R112–R116) -/

/-- The index i of `R8[i]` (R113). -/
def Reg8.code : Reg8 → BitVec 3
  | .b => 0
  | .c => 1
  | .d => 2
  | .e => 3
  | .h => 4
  | .l => 5
  | .a => 7

/-- The index i of `R8[i]`, 6 for (HL) (R113). -/
def Operand8.code : Operand8 → BitVec 3
  | .reg r => r.code
  | .memHL => 6

/-- The index p of `R16[p]` (R114). -/
def Reg16.code : Reg16 → BitVec 2
  | .bc => 0
  | .de => 1
  | .hl => 2
  | .sp => 3

/-- The index p of `R16S[p]` (R115). -/
def Reg16S.code : Reg16S → BitVec 2
  | .bc => 0
  | .de => 1
  | .hl => 2
  | .af => 3

/-- The index cc (R116). -/
def Cond.code : Cond → BitVec 2
  | .nz => 0
  | .z => 1
  | .nc => 2
  | .c => 3

/-- The field `ooo` of an ALU operation (43_alu8.md). -/
def AluOp.code : AluOp → BitVec 3
  | .add => 0
  | .adc => 1
  | .sub => 2
  | .sbc => 3
  | .and => 4
  | .xor => 5
  | .or => 6
  | .cp => 7

/-- The field y of a CB rotate or shift (R112). -/
def RotOp.code : RotOp → BitVec 3
  | .rlc => 0
  | .rrc => 1
  | .rl => 2
  | .rr => 3
  | .sla => 4
  | .sra => 5
  | .swap => 6
  | .srl => 7

/-- The registers a pair is made of (10_state.md R31); SP is none of them. -/
def Reg16.regs : Reg16 → List Reg8
  | .bc => [.b, .c]
  | .de => [.d, .e]
  | .hl => [.h, .l]
  | .sp => []

/-- The 8-bit registers but F that a stack pair is made of. -/
def Reg16S.regs : Reg16S → List Reg8
  | .bc => [.b, .c]
  | .de => [.d, .e]
  | .hl => [.h, .l]
  | .af => [.a]

namespace Machine

/-! ## What an ordinary instruction leaves (10_state.md R37, R38, R45; 47_system.md R401) -/

/-- PC after the `n` bytes of the instruction at PC are fetched, mod 2^16; a set `halt_bug` makes the first fetch
leave PC where it is (R14, R37, R45). -/
def seqPC (n : Nat) (s : State) : Word :=
  if s.haltBug then s.pc + BitVec.ofNat 16 n - 1 else s.pc + BitVec.ofNat 16 n

/-- The address of byte `k` of the instruction at PC: with `halt_bug` set the byte at PC is byte 0 and byte 1. -/
def fetchAddr (s : State) (k : Nat) : Word :=
  if s.haltBug then s.pc + BitVec.ofNat 16 (k - 1) else s.pc + BitVec.ofNat 16 k

/-- The step reported `t` T-cycles and no event. -/
def Reported (t : Nat) (s s' : State) : Prop :=
  s'.out = { cycles := cyclesIn s.cfg.cycleUnit t, accepted := false, reti := false, illegal := none }

/-- The control state is unchanged: IME, `ei_pending`, the run state, the parameters and the inputs; a set
`halt_bug` is consumed by the fetch. -/
structure Kept (s s' : State) : Prop where
  ime : s'.ime = s.ime
  eiPending : s'.eiPending = s.eiPending
  haltBug : s'.haltBug = false
  run : s'.run = s.run
  cfg : s'.cfg = s.cfg
  inputs : s'.inputs = s.inputs
  input : s'.input = s.input

/-- PC past the instruction's `len` bytes, the control state kept, `t` T-cycles reported. -/
structure Ordinary (len t : Nat) (s s' : State) : Prop where
  pc : s'.pc = seqPC len s
  kept : Kept s s'
  reported : Reported t s s'

/-- Every 8-bit register but F outside `written` holds what it held. -/
def RegsExcept (written : List Reg8) (s s' : State) : Prop := ∀ r, r ∉ written → s'.reg8 r = s.reg8 r

/-- Every byte of memory reads as before. -/
def SameMem (s s' : State) : Prop := ∀ a, s'.read8 a = s.read8 a

/-- `v` was stored at `x`: every address of `x`'s cell reads `v`, every other reads as before; in the unusable
range nothing was stored (20_memory.md R72–R75). -/
def StoredAt (x : Word) (v : Byte) (s s' : State) : Prop :=
  ∀ a, s'.read8 a = if mapAddr a = mapAddr x ∧ unusable x.toNat = false then v else s.read8 a

/-- `vx` was stored at `x` and `vy` at `y`, each through its own range. -/
def StoredTwo (x : Word) (vx : Byte) (y : Word) (vy : Byte) (s s' : State) : Prop :=
  ∀ a, s'.read8 a =
    if mapAddr a = mapAddr x ∧ unusable x.toNat = false then vx
    else if mapAddr a = mapAddr y ∧ unusable y.toNat = false then vy else s.read8 a

/-- `v` was pushed with SP = `sp` before: the high byte at SP-1, the low byte at SP-2 (00_scope.md R15). -/
def PushedAt (sp v : Word) (s s' : State) : Prop := StoredTwo (sp - 1) (hi v) (sp - 2) (lo v) s s'

/-- The operand's value was replaced by `v` and nothing else was: the register, or the byte at HL. -/
def WroteOperand (o : Operand8) (v : Byte) (s s' : State) : Prop :=
  match o with
  | .reg r => s'.reg8 r = v ∧ RegsExcept [r] s s' ∧ SameMem s s'
  | .memHL => StoredAt s.hl v s s' ∧ RegsExcept [] s s'

/-- The four flags, and F's low nibble zero (R33). -/
structure FlagsAre (z n h c : Bool) (s' : State) : Prop where
  z : s'.flagZ = z
  n : s'.flagN = n
  h : s'.flagH = h
  c : s'.flagC = c
  low : s'.f &&& 0x0F = 0

/-- The word the stack holds at `sp`: low byte at SP, high byte at SP+1 (R15). -/
def stackTop (s : State) : Word := w16 (s.read8 (s.sp + 1)) (s.read8 s.sp)

/-- No data moved: every register, SP, F and every byte of memory holds what it held. -/
structure SameData (s s' : State) : Prop where
  regs : RegsExcept [] s s'
  sp : s'.sp = s.sp
  f : s'.f = s.f
  mem : SameMem s s'

/-- An operation on A of `len` bytes and `t` T-cycles: only A and F may differ. -/
structure OnlyAF (len t : Nat) (s s' : State) : Prop where
  regs : RegsExcept [.a] s s'
  sp : s'.sp = s.sp
  mem : SameMem s s'
  ordinary : Ordinary len t s s'

/-- A is the sum of `x`, `y` and the carry in, mod 2^8, with the flags of R161. -/
def SumInA (x y : Byte) (cin : Bool) (s' : State) : Prop :=
  s'.a.toNat = (x.toNat + y.toNat + cin.toNat) % 256 ∧
    FlagsAre (decide (s'.a = 0)) false (decide (x.toNat % 16 + y.toNat % 16 + cin.toNat > 15))
      (decide (x.toNat + y.toNat + cin.toNat > 255)) s'

/-- The flags of `x - y` with the borrow in `cin` (R162). -/
def DifferenceFlags (x y : Byte) (cin : Bool) (s' : State) : Prop :=
  FlagsAre (decide (x.toNat % 256 = (y.toNat + cin.toNat) % 256)) true
    (decide (x.toNat % 16 < y.toNat % 16 + cin.toNat)) (decide (x.toNat < y.toNat + cin.toNat)) s'

/-! ## Decimal bytes (00_scope.md R18, BCD) -/

/-- Each nibble is a decimal digit. -/
def isBCD (v : Byte) : Bool := decide (v.toNat / 16 ≤ 9) && decide (v.toNat % 16 ≤ 9)

/-- The number a BCD byte stands for. -/
def decimal (v : Byte) : Nat := 10 * (v.toNat / 16) + v.toNat % 16

/-! ## The rotates and shifts, bit by bit (40_flag_engine.md R168, R169) -/

/-- Bit `k` of the result. -/
def movedBit (op : RotOp) (v : Byte) (cin : Bool) (k : Nat) : Bool :=
  match op with
  | .rlc => v.getLsbD ((k + 7) % 8)
  | .rrc => v.getLsbD ((k + 1) % 8)
  | .rl => if k = 0 then cin else v.getLsbD (k - 1)
  | .rr => if k = 7 then cin else v.getLsbD (k + 1)
  | .sla => if k = 0 then false else v.getLsbD (k - 1)
  | .sra => if k = 7 then v.getLsbD 7 else v.getLsbD (k + 1)
  | .swap => v.getLsbD ((k + 4) % 8)
  | .srl => if k = 7 then false else v.getLsbD (k + 1)

/-- The bit shifted out; SWAP shifts none out and clears C. -/
def outBit (op : RotOp) (v : Byte) : Bool :=
  match op with
  | .rlc => v.getLsbD 7
  | .rrc => v.getLsbD 0
  | .rl => v.getLsbD 7
  | .rr => v.getLsbD 0
  | .sla => v.getLsbD 7
  | .sra => v.getLsbD 0
  | .swap => false
  | .srl => v.getLsbD 0

/-! ## The invariant -/

/-- The opcode is one of the eleven of R122. -/
def isUndefinedByte (op : Byte) : Bool :=
  [0xD3, 0xDB, 0xDD, 0xE3, 0xE4, 0xEB, 0xEC, 0xED, 0xF4, 0xFC, 0xFD].contains op

/-- What every step keeps: F's low nibble is zero (R33); memory is canonical (20_memory.md R71); a set `halt_bug`
means a running core with interrupts off (47_system.md R391); a pending EI means a running core (R394, R400); a
locked core stands on the undefined opcode it met (R396). -/
structure Inv (s : State) : Prop where
  flagsLow : s.f &&& 0x0F = 0
  memory : s.mem.wf = true
  haltBug : s.haltBug = true → s.ime = false ∧ s.eiPending = false ∧ s.run = .running
  eiPending : s.eiPending = true → s.run = .running
  locked : ∀ op addr, s.run = .locked op addr → s.pc = addr ∧ s.read8 addr = op ∧ isUndefinedByte op = true

end Machine

end Sys2Proof
end

