-- ==== Sys2Proof/Safety/Tables.lean ====
section
/-! DEFINITION. Two tables of the spec, kept apart from the meanings so that claims can hold the one against the
other: the `flags` column of opcode_table.json (00_scope.md R17; 10_state.md R39) and the cycle tables
(70_reset_and_hazards.md R471, R472). -/

namespace Sys2Proof.Machine

/-- What a character of the flags column says of its flag (R17). -/
inductive FlagEffect where
  /-- `-`: unchanged. -/
  | keep
  /-- `0`: cleared. -/
  | clear
  /-- `1`: set. -/
  | set
  /-- A letter: computed by the rule. -/
  | computed
deriving DecidableEq, Repr

/-- The four characters of the column: Z, N, H, C in that order (R17). -/
structure FlagColumn where
  z : FlagEffect
  n : FlagEffect
  h : FlagEffect
  c : FlagEffect
deriving DecidableEq, Repr

namespace FlagColumn

/-- `----`. -/
def colKKKK : FlagColumn := ⟨.keep, .keep, .keep, .keep⟩
/-- `-001`. -/
def colK001 : FlagColumn := ⟨.keep, .clear, .clear, .set⟩
/-- `-00C`. -/
def colK00C : FlagColumn := ⟨.keep, .clear, .clear, .computed⟩
/-- `-0HC`. -/
def colK0HC : FlagColumn := ⟨.keep, .clear, .computed, .computed⟩
/-- `-11-`. -/
def colK11K : FlagColumn := ⟨.keep, .set, .set, .keep⟩
/-- `000C`. -/
def col000C : FlagColumn := ⟨.clear, .clear, .clear, .computed⟩
/-- `00HC`. -/
def col00HC : FlagColumn := ⟨.clear, .clear, .computed, .computed⟩
/-- `Z-0C`. -/
def colZK0C : FlagColumn := ⟨.computed, .keep, .clear, .computed⟩
/-- `Z000`. -/
def colZ000 : FlagColumn := ⟨.computed, .clear, .clear, .clear⟩
/-- `Z00C`. -/
def colZ00C : FlagColumn := ⟨.computed, .clear, .clear, .computed⟩
/-- `Z01-`. -/
def colZ01K : FlagColumn := ⟨.computed, .clear, .set, .keep⟩
/-- `Z010`. -/
def colZ010 : FlagColumn := ⟨.computed, .clear, .set, .clear⟩
/-- `Z0H-`. -/
def colZ0HK : FlagColumn := ⟨.computed, .clear, .computed, .keep⟩
/-- `Z0HC`. -/
def colZ0HC : FlagColumn := ⟨.computed, .clear, .computed, .computed⟩
/-- `Z1H-`. -/
def colZ1HK : FlagColumn := ⟨.computed, .set, .computed, .keep⟩
/-- `Z1HC`. -/
def colZ1HC : FlagColumn := ⟨.computed, .set, .computed, .computed⟩
/-- `ZNHC`. -/
def colZNHC : FlagColumn := ⟨.computed, .computed, .computed, .computed⟩

/-- The column of the primary opcodes, a row of 16 a line (0xCB's entry stands for the CB rows' columns). -/
def primary : List FlagColumn :=
  [colKKKK, colKKKK, colKKKK, colKKKK, colZ0HK, colZ1HK, colKKKK, col000C, colKKKK, colK0HC, colKKKK, colKKKK, colZ0HK, colZ1HK, colKKKK, col000C] ++
  [colKKKK, colKKKK, colKKKK, colKKKK, colZ0HK, colZ1HK, colKKKK, col000C, colKKKK, colK0HC, colKKKK, colKKKK, colZ0HK, colZ1HK, colKKKK, col000C] ++
  [colKKKK, colKKKK, colKKKK, colKKKK, colZ0HK, colZ1HK, colKKKK, colZK0C, colKKKK, colK0HC, colKKKK, colKKKK, colZ0HK, colZ1HK, colKKKK, colK11K] ++
  [colKKKK, colKKKK, colKKKK, colKKKK, colZ0HK, colZ1HK, colKKKK, colK001, colKKKK, colK0HC, colKKKK, colKKKK, colZ0HK, colZ1HK, colKKKK, colK00C] ++
  [colKKKK, colKKKK, colKKKK, colKKKK, colKKKK, colKKKK, colKKKK, colKKKK, colKKKK, colKKKK, colKKKK, colKKKK, colKKKK, colKKKK, colKKKK, colKKKK] ++
  [colKKKK, colKKKK, colKKKK, colKKKK, colKKKK, colKKKK, colKKKK, colKKKK, colKKKK, colKKKK, colKKKK, colKKKK, colKKKK, colKKKK, colKKKK, colKKKK] ++
  [colKKKK, colKKKK, colKKKK, colKKKK, colKKKK, colKKKK, colKKKK, colKKKK, colKKKK, colKKKK, colKKKK, colKKKK, colKKKK, colKKKK, colKKKK, colKKKK] ++
  [colKKKK, colKKKK, colKKKK, colKKKK, colKKKK, colKKKK, colKKKK, colKKKK, colKKKK, colKKKK, colKKKK, colKKKK, colKKKK, colKKKK, colKKKK, colKKKK] ++
  [colZ0HC, colZ0HC, colZ0HC, colZ0HC, colZ0HC, colZ0HC, colZ0HC, colZ0HC, colZ0HC, colZ0HC, colZ0HC, colZ0HC, colZ0HC, colZ0HC, colZ0HC, colZ0HC] ++
  [colZ1HC, colZ1HC, colZ1HC, colZ1HC, colZ1HC, colZ1HC, colZ1HC, colZ1HC, colZ1HC, colZ1HC, colZ1HC, colZ1HC, colZ1HC, colZ1HC, colZ1HC, colZ1HC] ++
  [colZ010, colZ010, colZ010, colZ010, colZ010, colZ010, colZ010, colZ010, colZ000, colZ000, colZ000, colZ000, colZ000, colZ000, colZ000, colZ000] ++
  [colZ000, colZ000, colZ000, colZ000, colZ000, colZ000, colZ000, colZ000, colZ1HC, colZ1HC, colZ1HC, colZ1HC, colZ1HC, colZ1HC, colZ1HC, colZ1HC] ++
  [colKKKK, colKKKK, colKKKK, colKKKK, colKKKK, colKKKK, colZ0HC, colKKKK, colKKKK, colKKKK, colKKKK, colKKKK, colKKKK, colKKKK, colZ0HC, colKKKK] ++
  [colKKKK, colKKKK, colKKKK, colKKKK, colKKKK, colKKKK, colZ1HC, colKKKK, colKKKK, colKKKK, colKKKK, colKKKK, colKKKK, colKKKK, colZ1HC, colKKKK] ++
  [colKKKK, colKKKK, colKKKK, colKKKK, colKKKK, colKKKK, colZ010, colKKKK, col00HC, colKKKK, colKKKK, colKKKK, colKKKK, colKKKK, colZ000, colKKKK] ++
  [colKKKK, colZNHC, colKKKK, colKKKK, colKKKK, colKKKK, colZ000, colKKKK, col00HC, colKKKK, colKKKK, colKKKK, colKKKK, colKKKK, colZ1HC, colKKKK]

/-- The column of the CB opcodes: the same in each group of eight. -/
def cbGroups : List FlagColumn :=
  [colZ00C, colZ00C, colZ00C, colZ00C, colZ00C, colZ00C, colZ000, colZ00C] ++
  [colZ01K, colZ01K, colZ01K, colZ01K, colZ01K, colZ01K, colZ01K, colZ01K] ++
  [colKKKK, colKKKK, colKKKK, colKKKK, colKKKK, colKKKK, colKKKK, colKKKK] ++
  [colKKKK, colKKKK, colKKKK, colKKKK, colKKKK, colKKKK, colKKKK, colKKKK]

/-- The column of an instruction, looked up by its bytes. -/
def of (i : Instr) : FlagColumn :=
  match encode i with
  | [] => colKKKK
  | op :: rest =>
    if op = 0xCB then cbGroups.getD ((rest.headD 0).toNat / 8) colKKKK else primary.getD op.toNat colKKKK

end FlagColumn

/-- One flag obeys its character. -/
def FlagEffect.obeyed (x : FlagEffect) (before after : Bool) : Prop :=
  match x with
  | .keep => after = before
  | .clear => after = false
  | .set => after = true
  | .computed => True

/-- The four flags obey the column. -/
def FlagColumn.obeyed (col : FlagColumn) (s s' : State) : Prop :=
  col.z.obeyed s.flagZ s'.flagZ ∧ col.n.obeyed s.flagN s'.flagN ∧
  col.h.obeyed s.flagH s'.flagH ∧ col.c.obeyed s.flagC s'.flagC

/-! ## Cycles -/

/-- The primary cycle table (R471): taken and not-taken counts, equal where the table has one. An undefined
opcode counts 4; 0xCB's entry is not read. -/
def primaryCycles : List (Nat × Nat) :=
  [(4, 4), (12, 12), (8, 8), (8, 8), (4, 4), (4, 4), (8, 8), (4, 4), (20, 20), (8, 8), (8, 8), (8, 8), (4, 4), (4, 4), (8, 8), (4, 4)] ++
  [(4, 4), (12, 12), (8, 8), (8, 8), (4, 4), (4, 4), (8, 8), (4, 4), (12, 12), (8, 8), (8, 8), (8, 8), (4, 4), (4, 4), (8, 8), (4, 4)] ++
  [(12, 8), (12, 12), (8, 8), (8, 8), (4, 4), (4, 4), (8, 8), (4, 4), (12, 8), (8, 8), (8, 8), (8, 8), (4, 4), (4, 4), (8, 8), (4, 4)] ++
  [(12, 8), (12, 12), (8, 8), (8, 8), (12, 12), (12, 12), (12, 12), (4, 4), (12, 8), (8, 8), (8, 8), (8, 8), (4, 4), (4, 4), (8, 8), (4, 4)] ++
  [(4, 4), (4, 4), (4, 4), (4, 4), (4, 4), (4, 4), (8, 8), (4, 4), (4, 4), (4, 4), (4, 4), (4, 4), (4, 4), (4, 4), (8, 8), (4, 4)] ++
  [(4, 4), (4, 4), (4, 4), (4, 4), (4, 4), (4, 4), (8, 8), (4, 4), (4, 4), (4, 4), (4, 4), (4, 4), (4, 4), (4, 4), (8, 8), (4, 4)] ++
  [(4, 4), (4, 4), (4, 4), (4, 4), (4, 4), (4, 4), (8, 8), (4, 4), (4, 4), (4, 4), (4, 4), (4, 4), (4, 4), (4, 4), (8, 8), (4, 4)] ++
  [(8, 8), (8, 8), (8, 8), (8, 8), (8, 8), (8, 8), (4, 4), (8, 8), (4, 4), (4, 4), (4, 4), (4, 4), (4, 4), (4, 4), (8, 8), (4, 4)] ++
  [(4, 4), (4, 4), (4, 4), (4, 4), (4, 4), (4, 4), (8, 8), (4, 4), (4, 4), (4, 4), (4, 4), (4, 4), (4, 4), (4, 4), (8, 8), (4, 4)] ++
  [(4, 4), (4, 4), (4, 4), (4, 4), (4, 4), (4, 4), (8, 8), (4, 4), (4, 4), (4, 4), (4, 4), (4, 4), (4, 4), (4, 4), (8, 8), (4, 4)] ++
  [(4, 4), (4, 4), (4, 4), (4, 4), (4, 4), (4, 4), (8, 8), (4, 4), (4, 4), (4, 4), (4, 4), (4, 4), (4, 4), (4, 4), (8, 8), (4, 4)] ++
  [(4, 4), (4, 4), (4, 4), (4, 4), (4, 4), (4, 4), (8, 8), (4, 4), (4, 4), (4, 4), (4, 4), (4, 4), (4, 4), (4, 4), (8, 8), (4, 4)] ++
  [(20, 8), (12, 12), (16, 12), (16, 16), (24, 12), (16, 16), (8, 8), (16, 16), (20, 8), (16, 16), (16, 12), (0, 0), (24, 12), (24, 24), (8, 8), (16, 16)] ++
  [(20, 8), (12, 12), (16, 12), (4, 4), (24, 12), (16, 16), (8, 8), (16, 16), (20, 8), (16, 16), (16, 12), (4, 4), (24, 12), (4, 4), (8, 8), (16, 16)] ++
  [(12, 12), (12, 12), (8, 8), (4, 4), (4, 4), (16, 16), (8, 8), (16, 16), (16, 16), (4, 4), (16, 16), (4, 4), (4, 4), (4, 4), (8, 8), (16, 16)] ++
  [(12, 12), (12, 12), (8, 8), (4, 4), (4, 4), (16, 16), (8, 8), (16, 16), (12, 12), (8, 8), (16, 16), (4, 4), (4, 4), (4, 4), (8, 8), (16, 16)]

/-- The CB cycle table (R472). -/
def cbCycles (cb : Byte) : Nat :=
  if (zField cb).toNat = 6 then (if (xField cb).toNat = 1 then 12 else 16) else 8

/-- The condition of a conditional opcode (R361, R364, R366, R368). -/
def conditionOf (op : Byte) : Option Cond :=
  if [0x20, 0x28, 0x30, 0x38, 0xC2, 0xCA, 0xD2, 0xDA, 0xC4, 0xCC, 0xD4, 0xDC, 0xC0, 0xC8, 0xD0, 0xD8].contains op
  then some (condOf (ccField op)) else none

/-- The count the tables give an instruction in the state it starts in. -/
def tableCycles (i : Instr) (s : State) : Nat :=
  match encode i with
  | [] => 0
  | op :: rest =>
    if op = 0xCB then cbCycles (rest.headD 0)
    else
      match conditionOf op with
      | some cc => if s.cond cc then (primaryCycles.getD op.toNat (0, 0)).1 else (primaryCycles.getD op.toNat (0, 0)).2
      | none => (primaryCycles.getD op.toNat (0, 0)).1

/-! ## Who may write memory and SP (20_memory.md R83; 10_state.md R38) -/

/-- The instructions with a data store, a read-modify-write or a push (R83); the bare prefix runs any CB row. -/
def writesMemory (i : Instr) : Bool :=
  match i with
  | .ld_mHL_B | .ld_mHL_C | .ld_mHL_D | .ld_mHL_E | .ld_mHL_H | .ld_mHL_L
  | .ld_mHL_A | .ld_mHL_d8 _ | .ld_mBC_A | .ld_mDE_A | .ld_mHLinc_A | .ld_mHLdec_A
  | .ld_ma16_A _ | .ldh_mC_A | .ldh_ma8_A _ | .ld_ma16_SP _ | .push_BC | .push_DE
  | .push_HL | .push_AF | .call_a16 _ | .call_NZ_a16 _ | .call_Z_a16 _ | .call_NC_a16 _
  | .call_C_a16 _ | .rst_00 | .rst_08 | .rst_10 | .rst_18 | .rst_20
  | .rst_28 | .rst_30 | .rst_38 | .inc_mHL | .dec_mHL | .rlc_mHL
  | .rrc_mHL | .rl_mHL | .rr_mHL | .sla_mHL | .sra_mHL | .swap_mHL
  | .srl_mHL | .res_0_mHL | .res_1_mHL | .res_2_mHL | .res_3_mHL | .res_4_mHL
  | .res_5_mHL | .res_6_mHL | .res_7_mHL | .set_0_mHL | .set_1_mHL | .set_2_mHL
  | .set_3_mHL | .set_4_mHL | .set_5_mHL | .set_6_mHL | .set_7_mHL | .prefix_CB _ => true
  | _ => false

/-- The instructions that write SP (R38). -/
def movesSP (i : Instr) : Bool :=
  match i with
  | .push_BC | .push_DE | .push_HL | .push_AF | .pop_BC | .pop_DE
  | .pop_HL | .pop_AF | .call_a16 _ | .call_NZ_a16 _ | .call_Z_a16 _ | .call_NC_a16 _
  | .call_C_a16 _ | .ret | .ret_NZ | .ret_Z | .ret_NC | .ret_C
  | .reti | .rst_00 | .rst_08 | .rst_10 | .rst_18 | .rst_20
  | .rst_28 | .rst_30 | .rst_38 | .add_SP_e8 _ | .ld_SP_HL | .ld_SP_d16 _
  | .inc_SP | .dec_SP => true
  | _ => false

end Sys2Proof.Machine
end

