-- ==== Sys2Proof/Certificates/Slice0/Obligations.lean ====
section
/-! DEFINITION. The statements for the provers. A statement about an instruction gives its encoding, says that `exec`
answers a next state from every state, and says all that this state holds: the result, the flags, and what is
unchanged. `Family.<name>` ranges over the constructors of its rule. -/

open Sys2Proof Sys2Proof.Machine

/-! ## Encoding (30_encoding.md) -/

/-- Words written out from the grids of R120 and R121, one or more for each family. -/
def Obligations.WrittenWordsDecode : Prop :=
  decodeBytes 0x00 0 0 = .nop ∧ decodeBytes 0x78 0 0 = .ld_A_B ∧ decodeBytes 0x36 0x99 0 = .ld_mHL_d8 0x99 ∧
  decodeBytes 0x01 0x34 0x12 = .ld_BC_d16 0x1234 ∧ decodeBytes 0x22 0 0 = .ld_mHLinc_A ∧
  decodeBytes 0xE0 0x80 0 = .ldh_ma8_A 0x80 ∧ decodeBytes 0xF5 0 0 = .push_AF ∧ decodeBytes 0x98 0 0 = .sbc_A_B ∧
  decodeBytes 0xFE 0x40 0 = .cp_A_d8 0x40 ∧ decodeBytes 0x39 0 0 = .add_HL_SP ∧ decodeBytes 0x1F 0 0 = .rra ∧
  decodeBytes 0xCB 0xCB 0 = .set_1_E ∧ decodeBytes 0xCB 0x36 0 = .swap_mHL ∧ decodeBytes 0xCB 0x7E 0 = .bit_7_mHL ∧
  decodeBytes 0xD2 0x00 0x02 = .jp_NC_a16 0x0200 ∧ decodeBytes 0xEF 0 0 = .rst_28 ∧ decodeBytes 0x76 0 0 = .halt ∧
  decodeBytes 0xFB 0 0 = .ei ∧ decodeBytes 0xDD 0 0 = .undef_DD

/-- Decoding the bytes of a well-formed instruction gives it back, with every operand at every value, and leaves the
bytes after it alone. -/
def Obligations.DecodeOfEncodeIsTheInstruction : Prop :=
  ∀ (i : Instr) (rest : List Byte), WellFormed i = true → decode (encode i ++ rest) = .ok (i, rest)

/-- Every byte sequence decodes to an instruction whose own bytes are the sequence's first bytes, as many as byte 0
says (R124, R126): decoding is total, and no two instructions share bytes. -/
def Obligations.EncodeOfDecodeIsTheBytes : Prop :=
  ∀ (op b1 b2 : Byte), WellFormed (decodeBytes op b1 b2) = true ∧
    encode (decodeBytes op b1 b2) = [op, b1, b2].take (lengthOf op)

/-- Exactly the eleven opcodes of R122 are undefined, whatever follows them: what decodes to an undefined opcode is one
of the eleven and is that byte (R123: no other encoding is undefined), and each of the eleven decodes so; they are one
byte long. -/
def Obligations.ElevenOpcodesAreUndefined : Prop :=
  (∀ (op b1 b2 : Byte) (u : UndefOp), decodeBytes op b1 b2 = Family.undef u →
    isUndefinedByte op = true ∧ u.byte = op) ∧
  (∀ (op b1 b2 : Byte), isUndefinedByte op = true → ∃ u, decodeBytes op b1 b2 = Family.undef u ∧ u.byte = op) ∧
  (∀ u : UndefOp, encode (Family.undef u) = [u.byte])

/-- The prefix with second byte `xx` is the CB row `xx`: the two bytes decode to that row, and the bare-prefix term
has the row's effect and completes (R125, R395). -/
def Obligations.PrefixRunsTheCBRow : Prop :=
  ∀ (xx b2 : Byte) (s : State), decodeBytes 0xCB xx b2 = decodeCB xx ∧
    exec (.prefix_CB xx) s = exec (decodeCB xx) s ∧ ∃ t, exec (.prefix_CB xx) s = .next t

/-! ## The step (47_system.md R400–R402) -/

/-- A running core that accepts no request runs the instruction whose bytes lie at PC, after EI promotion: phases 5
and 6. With `halt_bug` set the byte at PC is byte 0 and byte 1 (`fetchAddr`). -/
def Obligations.StepRunsTheInstructionAtPC : Prop :=
  ∀ (s : State) (i : Instr), s.run = .running →
    (s.ime = false ∨ (s.inputs.headD StepInput.empty).request = none) → WellFormed i = true →
    (∀ k b, (encode i)[k]? = some b → s.read8 (fetchAddr s k) = b) →
    step s = exec i { s with
      input := s.inputs.headD StepInput.empty, inputs := s.inputs.tail
      ime := s.ime || s.eiPending, eiPending := false }

/-- The step is total (R402): it never fails, it takes one input from the queue (the model's own field, log 3) and never
writes the parameters (log 5). -/
def Obligations.StepAlwaysAnswers : Prop :=
  ∀ s : State, ∃ t, step s = .next t ∧ t.inputs = s.inputs.tail ∧ t.cfg = s.cfg

/-- Phase 1, for ever: a locked core only idles, 4 cycles a step, reports `illegal` in each, and changes nothing
else, whatever requests arrive. -/
def Obligations.LockedCoreIdlesForEver : Prop :=
  ∀ (n : Nat) (s : State) (op : Byte) (addr : Word), s.run = .locked op addr →
    ∃ t : State, Sys2Proof.core.run (n + 1) s = .next t ∧
      t.out = { cycles := cyclesIn s.cfg.cycleUnit 4, accepted := false, reti := false, illegal := some (op, addr) } ∧
      ({ t with inputs := s.inputs, input := s.input, out := s.out } : State) = s

/-- Phases 2 and 4: a stopped core ignores requests and leaves the state only on `joypad_wake`; a halted core that
accepts no request leaves it only on `irq_pending`; both idle 4 cycles and execute nothing. -/
def Obligations.WaitingCoreIdles : Prop :=
  ∀ (s : State) (x : StepInput), x = s.inputs.headD StepInput.empty →
    (s.run = .stopped →
      step s = .next { s with
        input := x, inputs := s.inputs.tail, run := if x.joypadWake then .running else .stopped
        out := { cycles := cyclesIn s.cfg.cycleUnit 4, accepted := false, reti := false, illegal := none } }) ∧
    (s.run = .halted → (s.ime = false ∨ x.request = none) →
      step s = .next { s with
        input := x, inputs := s.inputs.tail, run := if x.irqPending then .running else .halted
        out := { cycles := cyclesIn s.cfg.cycleUnit 4, accepted := false, reti := false, illegal := none } })

/-- Phase 3, interrupt dispatch (R431), from a running or a halted core; `halt_bug` stays as it is (D12). For a
vector outside the five of R432 this is the model's choice (log 1). -/
def Obligations.DispatchPushesPCAndJumps : Prop :=
  ∀ (s : State) (v : Word), (s.run = .running ∨ s.run = .halted) → s.ime = true →
    (s.inputs.headD StepInput.empty).request = some v →
    ∃ t, step s = .next t ∧ t.pc = v ∧ t.sp = s.sp - 2 ∧ PushedAt s.sp s.pc s t ∧
      t.ime = false ∧ t.eiPending = false ∧ t.run = .running ∧ t.haltBug = s.haltBug ∧
      RegsExcept [] s t ∧ t.f = s.f ∧ t.cfg = s.cfg ∧ t.inputs = s.inputs.tail ∧
      t.out = { cycles := cyclesIn s.cfg.cycleUnit 20, accepted := true, reti := false, illegal := none }

/-- `accepted` is reported exactly in a dispatch step (R401, R430, R431), `reti` exactly in a step that executed RETI
(R433), and under LOCK `illegal` exactly while the core is locked (R401, R396, R421). That a vector outside the five of
R432 is accepted too is the model's choice (log 1). -/
def Obligations.EventsAreReportedWhereTheyHappen : Prop :=
  ∀ s t : State, step s = .next t →
    (t.out.accepted = true ↔ (s.run = .running ∨ s.run = .halted) ∧ s.ime = true ∧
      (s.inputs.headD StepInput.empty).request ≠ none) ∧
    (t.out.reti = true ↔ s.run = .running ∧
      (s.ime = false ∨ (s.inputs.headD StepInput.empty).request = none) ∧ s.fetchInstr = .reti) ∧
    (s.cfg.illegalPolicy = .lock → ∀ op addr, t.out.illegal = some (op, addr) ↔ t.run = .locked op addr)

/-- The count every step reports is positive, and in T-cycles a multiple of 4. -/
def Obligations.CyclesArePositiveMultiplesOfFour : Prop :=
  ∀ s t : State, step s = .next t →
    0 < t.out.cycles ∧ (s.cfg.cycleUnit = .tCycles → t.out.cycles % 4 = 0)

/-! ## The invariant -/

/-- Reset meets the invariant, whatever the parameters and the image. -/
def Obligations.ResetMeetsInvariant : Prop :=
  Inv State.reset ∧ ∀ (cfg : Config) (image : List Byte), Inv (State.boot cfg image)

/-- Every step keeps the invariant. -/
def Obligations.StepKeepsInvariant : Prop :=
  ∀ s t : State, Inv s → step s = .next t → Inv t

/-- Harness writes mask F and keep memory canonical; F alone and F in AF are masked (R33, R46). -/
def Obligations.HarnessWritesMaskF : Prop :=
  (∀ (w : HarnessWrite) (s : State), s.f &&& 0x0F = 0 → s.mem.wf = true →
    (s.harnessWrite w).f &&& 0x0F = 0 ∧ (s.harnessWrite w).mem.wf = true) ∧
  (∀ (v : Byte) (s : State), (s.harnessWrite (.regF v)).f = v &&& 0xF0) ∧
  (∀ (v : Word) (s : State), (s.harnessWrite (.pair .af v)).a = hi v ∧ (s.harnessWrite (.pair .af v)).f = lo v &&& 0xF0)

/-! ## Whole-machine rules over all instructions -/

/-- Every instruction obeys its `flags` column: an unchanged flag is unchanged, a cleared one is 0, a set one 1. -/
def Obligations.FlagsColumnHolds : Prop :=
  ∀ (i : Instr) (s t : State), WellFormed i = true → exec i s = .next t → (FlagColumn.of i).obeyed s t

/-- Every instruction reports the count of the cycle tables, taken or not taken by its condition (R471, R472). -/
def Obligations.CycleTablesHold : Prop :=
  ∀ (i : Instr) (s t : State), WellFormed i = true → exec i s = .next t →
    t.out.cycles = cyclesIn s.cfg.cycleUnit (tableCycles i s)

/-- A conditional instruction whose condition is false consumes strictly fewer cycles than the same opcode with the
condition true (R474). -/
def Obligations.FalseConditionIsCheaper : Prop :=
  ∀ (i : Instr) (op : Byte) (cc : Cond) (s s' t t' : State), (encode i).head? = some op → conditionOf op = some cc →
    s.cfg = s'.cfg → s.cond cc = false → s'.cond cc = true →
    exec i s = .next t → exec i s' = .next t' → t.out.cycles < t'.out.cycles

/-- Among the instructions only DI and RETI write IME, and only EI, DI and RETI write `ei_pending` (R42, R43). -/
def Obligations.OnlyDiAndRetiWriteIme : Prop :=
  ∀ (i : Instr) (s t : State), exec i s = .next t →
    (t.ime ≠ s.ime → (i = .di ∧ t.ime = false) ∨ (i = .reti ∧ t.ime = true)) ∧
    (t.eiPending ≠ s.eiPending → i = .ei ∨ i = .di ∨ i = .reti)

/-- Only the storing instructions change a byte of memory, and only the stack and SP instructions change SP
(R38, R83). -/
def Obligations.OnlyTheMapsWritersWriteMemoryAndSP : Prop :=
  ∀ (i : Instr) (s t : State), exec i s = .next t →
    (writesMemory i = false → t.mem = s.mem) ∧ (movesSP i = false → t.sp = s.sp)

/-- The EI delay (R394, R465): with interrupts off, the step that runs EI leaves IME 0, and the next step runs the
instruction after EI with IME 1, whatever request waits at that boundary; when that instruction is DI, interrupts end
disabled and neither step dispatched. -/
def Obligations.EiTakesEffectAfterTheNextInstruction : Prop :=
  ∀ s : State, s.run = .running → s.ime = false → s.eiPending = false → s.fetchInstr = .ei →
    ∃ t, step s = .next t ∧ t.ime = false ∧ t.eiPending = true ∧ t.run = .running ∧
      step t = exec t.fetchInstr { t with
        input := t.inputs.headD StepInput.empty, inputs := t.inputs.tail, ime := true, eiPending := false } ∧
      (t.fetchInstr = .di → ∃ u, step t = .next u ∧ t.out.accepted = false ∧ u.out.accepted = false ∧
        u.ime = false ∧ u.eiPending = false)

/-- The HALT bug (R391, R466): HALT with IME = 0 and an interrupt pending does not halt, and the next step reads the
byte after HALT twice, as opcode and as the byte after it. -/
def Obligations.HaltBugReadsTheNextByteTwice : Prop :=
  ∀ s : State, s.run = .running → s.ime = false → s.eiPending = false → s.fetchInstr = .halt →
    (s.inputs.headD StepInput.empty).irqPending = true →
    ∃ t, step s = .next t ∧ t.run = .running ∧ t.haltBug = true ∧ t.pc = seqPC 1 s ∧
      step t = exec (decodeBytes (t.read8 t.pc) (t.read8 t.pc) (t.read8 (t.pc + 1))) t.takeInput ∧
      (t.passBytes 1).pc = t.pc

/-! ## Memory (20_memory.md) -/

/-- A write is read back at every address of its cell, every other address reads as before, and the unusable range
takes nothing (R72, R73, R76, R90). -/
def Obligations.WriteIsReadBackThroughTheMap : Prop :=
  ∀ (s : State) (x : Word) (v : Byte), StoredAt x v s (s.write8 x v)

/-- Echo RAM mirrors C000–DDFF both ways, DE00–DFFF has no mirror (R74); in the unusable range writes are discarded
and every read is the one constant `UNUSABLE_READ`, 0xFF by default (R75). -/
def Obligations.EchoMirrorsAndTheUnusableRangeIsConstant : Prop :=
  (∀ (s : State) (a : Word) (v : Byte), 0xC000 ≤ a.toNat → a.toNat ≤ 0xDDFF →
    (s.write8 a v).read8 (a + 0x2000) = v ∧ (s.write8 a v).read8 a = v ∧
    (s.write8 (a + 0x2000) v).read8 a = v ∧ (s.write8 (a + 0x2000) v).read8 (a + 0x2000) = v) ∧
  (∀ (s : State) (a b : Word) (v : Byte), 0xDE00 ≤ a.toNat → a.toNat ≤ 0xDFFF → b ≠ a →
    (s.write8 a v).read8 b = s.read8 b) ∧
  (∀ (s : State) (a : Word) (v : Byte), 0xFEA0 ≤ a.toNat → a.toNat ≤ 0xFEFF →
    s.write8 a v = s ∧ s.read8 a = s.cfg.unusableRead) ∧ State.reset.cfg.unusableRead = 0xFF

/-- 16-bit accesses are little-endian, the second byte's address wraps, and each byte goes through its own range
(R78). -/
def Obligations.WordAccessIsLittleEndian : Prop :=
  ∀ (s : State) (a v : Word), s.read16 a = w16 (s.read8 (a + 1)) (s.read8 a) ∧
    StoredTwo a (lo v) (a + 1) (hi v) s (s.write16 a v) ∧
    (unusable a.toNat = false → unusable (a + 1).toNat = false → (s.write16 a v).read16 a = v)

/-- Canonical memories that read alike at every address are equal (R71: cells no access reaches are no part of the
state). -/
def Obligations.CanonicalMemoryIsDeterminedByItsReads : Prop :=
  ∀ (m m' : Memory) (sentinel : Byte), m.wf = true → m'.wf = true →
    (∀ a : Word, m.read8 sentinel a = m'.read8 sentinel a) → m = m'

/-- Reset with an image: the register table and the hidden state, and memory the image's bytes (R48, R460, R91). Under
the other profile no register value is claimed (R461: no model may rely on them), the rest is the same. -/
def Obligations.ResetBuildsTheTableAndTheImage : Prop :=
  ∀ (cfg : Config) (image : List Byte), image.length = 65536 →
    ∃ s, s = State.boot cfg image ∧
      (cfg.resetProfile = .dmgPostBoot → s.af = 0x01B0 ∧ s.bc = 0x0013 ∧ s.de = 0x00D8 ∧ s.hl = 0x014D ∧
        s.sp = 0xFFFE ∧ s.pc = 0x0100) ∧
      s.ime = false ∧ s.eiPending = false ∧ s.haltBug = false ∧ s.run = .running ∧ s.cfg = cfg ∧
      ∀ a : Word, s.read8 a = if unusable a.toNat then cfg.unusableRead else image.getD (mapAddr a).toNat 0

/-! ## Flags (10_state.md R35; 40_flag_engine.md) -/

/-- Each accessor works on its own bit of F only, F's low nibble stays zero (R33, R35), and the conditions read Z and
C (R116). -/
def Obligations.FlagAccessorsTouchOneBit : Prop :=
  (∀ (k k' : FlagKind) (v : Bool) (f : Byte), getFlag k' (setFlag k v f) = (if k' = k then v else getFlag k' f) ∧
    setFlag k v f &&& 0x0F = 0) ∧
  (∀ f : Byte, f &&& 0x0F = 0 →
    f = packF (getFlag .zero f) (getFlag .subtract f) (getFlag .halfCarry f) (getFlag .carry f)) ∧
  (∀ s : State, (s.cond .nz = true ↔ s.f.getLsbD 7 = false) ∧ (s.cond .z = true ↔ s.f.getLsbD 7 = true) ∧
    (s.cond .nc = true ↔ s.f.getLsbD 4 = false) ∧ (s.cond .c = true ↔ s.f.getLsbD 4 = true))

/-- H and C are the true carries and borrows: with the carry out the 8-bit result is the exact sum or difference, and
with the half-carry so is its low nibble (R161, R162). -/
def Obligations.CarriesMakeTheSumExact : Prop :=
  ∀ (a b : Byte) (cin : Bool),
    (∃ h c, (add8 a b cin).2.h = some h ∧ (add8 a b cin).2.c = some c ∧
      (add8 a b cin).1.toNat + 256 * c.toNat = a.toNat + b.toNat + cin.toNat ∧
      (add8 a b cin).1.toNat % 16 + 16 * h.toNat = a.toNat % 16 + b.toNat % 16 + cin.toNat) ∧
    (∃ h c, (sub8 a b cin).2.h = some h ∧ (sub8 a b cin).2.c = some c ∧
      (sub8 a b cin).1.toNat + b.toNat + cin.toNat = a.toNat + 256 * c.toNat ∧
      (sub8 a b cin).1.toNat % 16 + b.toNat % 16 + cin.toNat = a.toNat % 16 + 16 * h.toNat)

/-! ## 8-bit loads (41_loads8.md) -/

/-- LD r,r' (R200). -/
def Obligations.LdRegRegCopies : Prop :=
  ∀ (dst src : Reg8) (s : State), encode (Family.ldRegReg dst src) = [1#2 ++ dst.code ++ src.code] ∧
    ∃ t, exec (Family.ldRegReg dst src) s = .next t ∧ t.reg8 dst = s.reg8 src ∧
      RegsExcept [dst] s t ∧ t.sp = s.sp ∧ t.f = s.f ∧ SameMem s t ∧ Ordinary 1 4 s t

/-- LD r,d8 and LD (HL),d8 (R201, R204). -/
def Obligations.LdImmediateByte : Prop :=
  ∀ (o : Operand8) (n : Byte) (s : State), encode (Family.ldImm o n) = [0#2 ++ o.code ++ 6#3, n] ∧
    ∃ t, exec (Family.ldImm o n) s = .next t ∧ WroteOperand o n s t ∧ t.sp = s.sp ∧ t.f = s.f ∧
      Ordinary 2 (match o with | .reg _ => 8 | .memHL => 12) s t

/-- LD r,(HL): the address is HL before the write (R202). -/
def Obligations.LdRegFromHL : Prop :=
  ∀ (dst : Reg8) (s : State), encode (Family.ldRegMem dst) = [1#2 ++ dst.code ++ 6#3] ∧
    ∃ t, exec (Family.ldRegMem dst) s = .next t ∧ t.reg8 dst = s.read8 s.hl ∧
      RegsExcept [dst] s t ∧ t.sp = s.sp ∧ t.f = s.f ∧ SameMem s t ∧ Ordinary 1 8 s t

/-- LD (HL),r (R203). -/
def Obligations.LdHLFromReg : Prop :=
  ∀ (src : Reg8) (s : State), encode (Family.ldMemReg src) = [1#2 ++ 6#3 ++ src.code] ∧
    ∃ t, exec (Family.ldMemReg src) s = .next t ∧ StoredAt s.hl (s.reg8 src) s t ∧
      RegsExcept [] s t ∧ t.sp = s.sp ∧ t.f = s.f ∧ Ordinary 1 8 s t

/-- The accumulator loads: through BC and DE, through HL with the update of HL after the access, at a16, in the high
page at C and at a8 (R205, R206, R209, R211, R213, R215, R216). -/
def Obligations.AccumulatorLoads : Prop :=
  ∀ (s : State) (n : Byte) (a : Word),
    encode .ld_A_mBC = [0x0A] ∧ encode .ld_A_mDE = [0x1A] ∧ encode .ld_A_mHLinc = [0x2A] ∧ encode .ld_A_mHLdec = [0x3A] ∧
    encode (.ld_A_ma16 a) = [0xFA, lo a, hi a] ∧ encode .ldh_A_mC = [0xF2] ∧ encode (.ldh_A_ma8 n) = [0xF0, n] ∧
    ∀ (i : Instr) (len cyc : Nat) (addr hl' : Word),
      (i, len, cyc, addr, hl') ∈ [
        ((.ld_A_mBC : Instr), 1, 8, s.bc, s.hl), (.ld_A_mDE, 1, 8, s.de, s.hl),
        (.ld_A_mHLinc, 1, 8, s.hl, s.hl + 1), (.ld_A_mHLdec, 1, 8, s.hl, s.hl - 1),
        (.ld_A_ma16 a, 3, 16, a, s.hl), (.ldh_A_mC, 1, 8, 0xFF00 + zext16 s.c, s.hl),
        (.ldh_A_ma8 n, 2, 12, 0xFF00 + zext16 n, s.hl)] →
      ∃ t, exec i s = .next t ∧ t.a = s.read8 addr ∧ t.hl = hl' ∧ RegsExcept [.a, .h, .l] s t ∧
        t.sp = s.sp ∧ t.f = s.f ∧ SameMem s t ∧ Ordinary len cyc s t

/-- The accumulator stores, at the same addresses (R207, R208, R210, R212, R214, R217, R218). -/
def Obligations.AccumulatorStores : Prop :=
  ∀ (s : State) (n : Byte) (a : Word),
    encode .ld_mBC_A = [0x02] ∧ encode .ld_mDE_A = [0x12] ∧ encode .ld_mHLinc_A = [0x22] ∧ encode .ld_mHLdec_A = [0x32] ∧
    encode (.ld_ma16_A a) = [0xEA, lo a, hi a] ∧ encode .ldh_mC_A = [0xE2] ∧ encode (.ldh_ma8_A n) = [0xE0, n] ∧
    ∀ (i : Instr) (len cyc : Nat) (addr hl' : Word),
      (i, len, cyc, addr, hl') ∈ [
        ((.ld_mBC_A : Instr), 1, 8, s.bc, s.hl), (.ld_mDE_A, 1, 8, s.de, s.hl),
        (.ld_mHLinc_A, 1, 8, s.hl, s.hl + 1), (.ld_mHLdec_A, 1, 8, s.hl, s.hl - 1),
        (.ld_ma16_A a, 3, 16, a, s.hl), (.ldh_mC_A, 1, 8, 0xFF00 + zext16 s.c, s.hl),
        (.ldh_ma8_A n, 2, 12, 0xFF00 + zext16 n, s.hl)] →
      ∃ t, exec i s = .next t ∧ StoredAt addr s.a s t ∧ t.hl = hl' ∧ RegsExcept [.h, .l] s t ∧
        t.sp = s.sp ∧ t.f = s.f ∧ Ordinary len cyc s t

/-! ## 16-bit loads and the stack (42_loads16_stack.md) -/

/-- LD rr,d16 (R240) and LD SP,HL (R242). -/
def Obligations.LoadsOfPairs : Prop :=
  (∀ (p : Reg16) (v : Word) (s : State), encode (Family.ldReg16Imm p v) = [0#2 ++ p.code ++ 1#4, lo v, hi v] ∧
    ∃ t, exec (Family.ldReg16Imm p v) s = .next t ∧ t.reg16 p = v ∧ RegsExcept p.regs s t ∧
      (p ≠ .sp → t.sp = s.sp) ∧ t.f = s.f ∧ SameMem s t ∧ Ordinary 3 12 s t) ∧
  (∀ s : State, encode .ld_SP_HL = [0xF9] ∧
    ∃ t, exec .ld_SP_HL s = .next t ∧ t.sp = s.hl ∧ RegsExcept [] s t ∧ t.f = s.f ∧ SameMem s t ∧ Ordinary 1 8 s t)

/-- LD (a16),SP: the low byte at a16, the high byte at a16 + 1 mod 2^16, each through its own range (R241). -/
def Obligations.LdMemSPStoresBothBytes : Prop :=
  ∀ (a : Word) (s : State), encode (.ld_ma16_SP a) = [0x08, lo a, hi a] ∧
    ∃ t, exec (.ld_ma16_SP a) s = .next t ∧ StoredTwo a (lo s.sp) (a + 1) (hi s.sp) s t ∧
      RegsExcept [] s t ∧ t.sp = s.sp ∧ t.f = s.f ∧ Ordinary 3 20 s t

/-- ADD SP,e8 (R303) and LD HL,SP+e8 (R243): the offset is signed, the flags are those of the unsigned add of SP's low
byte and the raw byte (R165). -/
def Obligations.SpPlusOffset : Prop :=
  ∀ (e : Byte) (s : State),
    encode (.add_SP_e8 e) = [0xE8, e] ∧ encode (.ld_HL_SPe8 e) = [0xF8, e] ∧
    (∃ t, exec (.add_SP_e8 e) s = .next t ∧ t.sp = s.sp + BitVec.ofInt 16 e.toInt ∧
      FlagsAre false false (decide (s.sp.toNat % 16 + e.toNat % 16 > 15)) (decide (s.sp.toNat % 256 + e.toNat > 255)) t ∧
      RegsExcept [] s t ∧ SameMem s t ∧ Ordinary 2 16 s t) ∧
    (∃ t, exec (.ld_HL_SPe8 e) s = .next t ∧ t.hl = s.sp + BitVec.ofInt 16 e.toInt ∧
      FlagsAre false false (decide (s.sp.toNat % 16 + e.toNat % 16 > 15)) (decide (s.sp.toNat % 256 + e.toNat > 255)) t ∧
      RegsExcept [.h, .l] s t ∧ t.sp = s.sp ∧ SameMem s t ∧ Ordinary 2 12 s t)

/-- PUSH rr: the high byte at SP-1, the low byte at SP-2, SP down by 2, all mod 2^16 (R244, R15). -/
def Obligations.PushStoresThePair : Prop :=
  ∀ (p : Reg16S) (s : State), encode (Family.push p) = [3#2 ++ p.code ++ 5#4] ∧
    ∃ t, exec (Family.push p) s = .next t ∧ PushedAt s.sp (s.reg16S p) s t ∧ t.sp = s.sp - 2 ∧
      RegsExcept [] s t ∧ t.f = s.f ∧ Ordinary 1 16 s t

/-- POP rr: the low byte from SP, the high byte from SP+1, SP up by 2; POP AF masks F (R245, R15, R33). -/
def Obligations.PopLoadsThePair : Prop :=
  ∀ (p : Reg16S) (s : State), encode (Family.pop p) = [3#2 ++ p.code ++ 1#4] ∧
    ∃ t, exec (Family.pop p) s = .next t ∧
      t.reg16S p = (if p = .af then stackTop s &&& 0xFFF0 else stackTop s) ∧ t.sp = s.sp + 2 ∧
      RegsExcept p.regs s t ∧ (p ≠ .af → t.f = s.f) ∧ SameMem s t ∧ Ordinary 1 12 s t

/-- PUSH then POP gives the pushed value, masked where it goes to AF, and SP back, for every pair of pairs and every
SP, unless one of the two cells is in the unusable range (R246). -/
def Obligations.StackRoundTrip : Prop :=
  ∀ (p q : Reg16S) (s : State), unusable (s.sp - 1).toNat = false → unusable (s.sp - 2).toNat = false →
    ∃ t u, exec (Family.push p) s = .next t ∧ exec (Family.pop q) t = .next u ∧ u.sp = s.sp ∧
      u.reg16S q = (if q = .af then s.reg16S p &&& 0xFFF0 else s.reg16S p)

/-! ## 8-bit arithmetic and logic (43_alu8.md) -/

/-- ADD and ADC on a register, on (HL) and on d8 (R260–R265). -/
def Obligations.AddAndAdcGiveTheSum : Prop :=
  ∀ (op : AluOp) (cin : Bool) (s : State), (op = .add ∧ cin = false) ∨ (op = .adc ∧ cin = s.flagC) →
    (∀ o : Operand8, encode (Family.alu op o) = [2#2 ++ op.code ++ o.code] ∧
      ∃ t, exec (Family.alu op o) s = .next t ∧ SumInA s.a (s.readR8 o) cin t ∧ OnlyAF 1 (cyclesOn o 4 8) s t) ∧
    (∀ n : Byte, encode (Family.aluImm op n) = [3#2 ++ op.code ++ 6#3, n] ∧
      ∃ t, exec (Family.aluImm op n) s = .next t ∧ SumInA s.a n cin t ∧ OnlyAF 2 8 s t)

/-- SUB and SBC on a register, on (HL) and on d8 (R266–R271). -/
def Obligations.SubAndSbcGiveTheDifference : Prop :=
  ∀ (op : AluOp) (cin : Bool) (s : State), (op = .sub ∧ cin = false) ∨ (op = .sbc ∧ cin = s.flagC) →
    (∀ o : Operand8, encode (Family.alu op o) = [2#2 ++ op.code ++ o.code] ∧
      ∃ t, exec (Family.alu op o) s = .next t ∧
        (t.a.toNat + (s.readR8 o).toNat + cin.toNat) % 256 = s.a.toNat ∧
        DifferenceFlags s.a (s.readR8 o) cin t ∧ OnlyAF 1 (cyclesOn o 4 8) s t) ∧
    (∀ n : Byte, encode (Family.aluImm op n) = [3#2 ++ op.code ++ 6#3, n] ∧
      ∃ t, exec (Family.aluImm op n) s = .next t ∧ (t.a.toNat + n.toNat + cin.toNat) % 256 = s.a.toNat ∧
        DifferenceFlags s.a n cin t ∧ OnlyAF 2 8 s t)

/-- AND, XOR and OR, bit by bit, on a register, on (HL) and on d8 (R272–R280). -/
def Obligations.LogicWorksBitByBit : Prop :=
  ∀ (op : AluOp) (g : Bool → Bool → Bool) (s : State),
    (op = .and ∧ g = and) ∨ (op = .xor ∧ g = xor) ∨ (op = .or ∧ g = or) →
    (∀ o : Operand8, encode (Family.alu op o) = [2#2 ++ op.code ++ o.code] ∧
      ∃ t, exec (Family.alu op o) s = .next t ∧
        (∀ k, k < 8 → t.a.getLsbD k = g (s.a.getLsbD k) ((s.readR8 o).getLsbD k)) ∧
        FlagsAre (decide (t.a = 0)) false (decide (op = .and)) false t ∧ OnlyAF 1 (cyclesOn o 4 8) s t) ∧
    (∀ n : Byte, encode (Family.aluImm op n) = [3#2 ++ op.code ++ 6#3, n] ∧
      ∃ t, exec (Family.aluImm op n) s = .next t ∧
        (∀ k, k < 8 → t.a.getLsbD k = g (s.a.getLsbD k) (n.getLsbD k)) ∧
        FlagsAre (decide (t.a = 0)) false (decide (op = .and)) false t ∧ OnlyAF 2 8 s t)

/-- CP writes the flags of a subtract and leaves A (R163, R281–R283). -/
def Obligations.CpOnlyCompares : Prop :=
  ∀ s : State,
    (∀ o : Operand8, encode (Family.alu .cp o) = [2#2 ++ 7#3 ++ o.code] ∧
      ∃ t, exec (Family.alu .cp o) s = .next t ∧ DifferenceFlags s.a (s.readR8 o) false t ∧ t.a = s.a ∧
        OnlyAF 1 (cyclesOn o 4 8) s t) ∧
    (∀ n : Byte, encode (Family.aluImm .cp n) = [3#2 ++ 7#3 ++ 6#3, n] ∧
      ∃ t, exec (Family.aluImm .cp n) s = .next t ∧ DifferenceFlags s.a n false t ∧ t.a = s.a ∧ OnlyAF 2 8 s t)

/-- INC and DEC of a register and of (HL): C is kept (R176, R284–R287). -/
def Obligations.IncDecKeepCarry : Prop :=
  ∀ (o : Operand8) (s : State),
    (encode (Family.inc8 o) = [0#2 ++ o.code ++ 4#3] ∧
      ∃ t, exec (Family.inc8 o) s = .next t ∧ WroteOperand o (s.readR8 o + 1) s t ∧ t.sp = s.sp ∧
        FlagsAre (decide ((s.readR8 o).toNat = 255)) false (decide ((s.readR8 o).toNat % 16 = 15)) s.flagC t ∧
        Ordinary 1 (cyclesOn o 4 12) s t) ∧
    (encode (Family.dec8 o) = [0#2 ++ o.code ++ 5#3] ∧
      ∃ t, exec (Family.dec8 o) s = .next t ∧ WroteOperand o (s.readR8 o - 1) s t ∧ t.sp = s.sp ∧
        FlagsAre (decide ((s.readR8 o).toNat = 1)) true (decide ((s.readR8 o).toNat % 16 = 0)) s.flagC t ∧
        Ordinary 1 (cyclesOn o 4 12) s t)

/-- DAA by the formula of R171, on every A and every flag (R288). -/
def Obligations.DaaFollowsTheFormula : Prop :=
  ∀ s : State, encode .daa = [0x27] ∧
    ∃ t, exec .daa s = .next t ∧ OnlyAF 1 4 s t ∧
      (s.flagN = false → ∀ up mid, up = (s.flagC || decide (s.a.toNat > 0x99)) →
        mid = (s.a.toNat + if up then 0x60 else 0) % 256 →
        t.a.toNat = (mid + if s.flagH || decide (mid % 16 > 9) then 0x06 else 0) % 256 ∧
        FlagsAre (decide (t.a = 0)) false false up t) ∧
      (s.flagN = true →
        (t.a.toNat + (if s.flagC then 0x60 else 0) + if s.flagH then 0x06 else 0) % 256 = s.a.toNat ∧
        FlagsAre (decide (t.a = 0)) true false s.flagC t)

/-- After an add of two BCD bytes DAA gives their BCD sum, and C = 1 exactly when the decimal sum exceeds 99; after a
subtract it gives the decimal difference, C the decimal borrow. -/
def Obligations.DaaGivesTheDecimalResult : Prop :=
  ∀ (o : Operand8) (s : State), isBCD s.a = true → isBCD (s.readR8 o) = true →
    (∃ t u, exec (Family.alu .add o) s = .next t ∧ exec .daa t = .next u ∧ isBCD u.a = true ∧
      decimal u.a = (decimal s.a + decimal (s.readR8 o)) % 100 ∧
      u.flagC = decide (decimal s.a + decimal (s.readR8 o) > 99)) ∧
    (∃ t u, exec (Family.alu .sub o) s = .next t ∧ exec .daa t = .next u ∧ isBCD u.a = true ∧
      (decimal u.a + decimal (s.readR8 o)) % 100 = decimal s.a ∧
      u.flagC = decide (decimal s.a < decimal (s.readR8 o)))

/-- CPL, SCF and CCF (R289–R291). -/
def Obligations.ComplementAndCarryOperations : Prop :=
  ∀ s : State, encode .cpl = [0x2F] ∧ encode .scf = [0x37] ∧ encode .ccf = [0x3F] ∧
    (∃ t, exec .cpl s = .next t ∧ t.a.toNat = 255 - s.a.toNat ∧ FlagsAre s.flagZ true true s.flagC t ∧
      OnlyAF 1 4 s t) ∧
    (∃ t, exec .scf s = .next t ∧ t.a = s.a ∧ FlagsAre s.flagZ false false true t ∧ OnlyAF 1 4 s t) ∧
    (∃ t, exec .ccf s = .next t ∧ t.a = s.a ∧ FlagsAre s.flagZ false false (!s.flagC) t ∧ OnlyAF 1 4 s t)

/-! ## 16-bit arithmetic (44_alu16.md) -/

/-- ADD HL,rr (R164, R300), INC rr (R301) and DEC rr (R302). -/
def Obligations.PairArithmetic : Prop :=
  ∀ (p : Reg16) (s : State),
    (encode (Family.addHL p) = [0#2 ++ p.code ++ 9#4] ∧
      ∃ t, exec (Family.addHL p) s = .next t ∧ t.hl.toNat = (s.hl.toNat + (s.reg16 p).toNat) % 65536 ∧
        FlagsAre s.flagZ false (decide (s.hl.toNat % 4096 + (s.reg16 p).toNat % 4096 > 4095))
          (decide (s.hl.toNat + (s.reg16 p).toNat > 65535)) t ∧
        RegsExcept [.h, .l] s t ∧ t.sp = s.sp ∧ SameMem s t ∧ Ordinary 1 8 s t) ∧
    (encode (Family.inc16 p) = [0#2 ++ p.code ++ 3#4] ∧
      ∃ t, exec (Family.inc16 p) s = .next t ∧ t.reg16 p = s.reg16 p + 1 ∧ RegsExcept p.regs s t ∧
        (p ≠ .sp → t.sp = s.sp) ∧ t.f = s.f ∧ SameMem s t ∧ Ordinary 1 8 s t) ∧
    (encode (Family.dec16 p) = [0#2 ++ p.code ++ 11#4] ∧
      ∃ t, exec (Family.dec16 p) s = .next t ∧ t.reg16 p = s.reg16 p - 1 ∧ RegsExcept p.regs s t ∧
        (p ≠ .sp → t.sp = s.sp) ∧ t.f = s.f ∧ SameMem s t ∧ Ordinary 1 8 s t)

/-! ## Rotates, shifts and bits (45_rotate_shift_bit.md) -/

/-- RLCA, RRCA, RLA and RRA: the bit moves of R168 on A, with Z forced to 0 (R167, R320–R323). -/
def Obligations.AccumulatorRotatesClearZ : Prop :=
  ∀ s : State, encode .rlca = [0x07] ∧ encode .rrca = [0x0F] ∧ encode .rla = [0x17] ∧ encode .rra = [0x1F] ∧
    ∀ (i : Instr) (op : RotOp), (i, op) ∈ [((.rlca : Instr), RotOp.rlc), (.rrca, .rrc), (.rla, .rl), (.rra, .rr)] →
      ∃ t, exec i s = .next t ∧ (∀ k, k < 8 → t.a.getLsbD k = movedBit op s.a s.flagC k) ∧
        FlagsAre false false false (outBit op s.a) t ∧ OnlyAF 1 4 s t

/-- The CB rotates, shifts and SWAP of a register (R324 to R338, the even rules). -/
def Obligations.CbRotatesOfRegisters : Prop :=
  ∀ (op : RotOp) (r : Reg8) (s : State), encode (Family.rot op (.reg r)) = [0xCB, 0#2 ++ op.code ++ r.code] ∧
    ∃ t, exec (Family.rot op (.reg r)) s = .next t ∧
      (∀ k, k < 8 → (t.reg8 r).getLsbD k = movedBit op (s.reg8 r) s.flagC k) ∧
      FlagsAre (decide (t.reg8 r = 0)) false false (outBit op (s.reg8 r)) t ∧
      RegsExcept [r] s t ∧ t.sp = s.sp ∧ SameMem s t ∧ Ordinary 2 8 s t

/-- The CB rotates, shifts and SWAP of the byte at HL (R325 to R339, the odd rules). -/
def Obligations.CbRotatesOfMemory : Prop :=
  ∀ (op : RotOp) (s : State), encode (Family.rot op .memHL) = [0xCB, 0#2 ++ op.code ++ 6#3] ∧
    ∃ t res, exec (Family.rot op .memHL) s = .next t ∧
      (∀ k, k < 8 → res.getLsbD k = movedBit op (s.read8 s.hl) s.flagC k) ∧ StoredAt s.hl res s t ∧
      FlagsAre (decide (res = 0)) false false (outBit op (s.read8 s.hl)) t ∧
      RegsExcept [] s t ∧ t.sp = s.sp ∧ Ordinary 2 16 s t

/-- BIT b: Z is the complement of bit b, and nothing is written but F (R170, R340, R341). -/
def Obligations.BitTestsWriteOnlyFlags : Prop :=
  ∀ (b : Fin 8) (o : Operand8) (s : State), encode (Family.bit b o) = [0xCB, 1#2 ++ (BitVec.ofFin b : BitVec 3) ++ o.code] ∧
    ∃ t, exec (Family.bit b o) s = .next t ∧ FlagsAre (!(s.readR8 o).getLsbD b.val) false true s.flagC t ∧
      RegsExcept [] s t ∧ t.sp = s.sp ∧ SameMem s t ∧ Ordinary 2 (cyclesOn o 8 12) s t

/-- RES b and SET b change bit b of the operand and no flag (R342–R345). -/
def Obligations.ResAndSetChangeOneBit : Prop :=
  ∀ (b : Fin 8) (o : Operand8) (s : State) (i : Instr) (x : BitVec 2) (v : Bool),
    (i = Family.res b o ∧ x = 2 ∧ v = false) ∨ (i = Family.set b o ∧ x = 3 ∧ v = true) →
    encode i = [0xCB, x ++ (BitVec.ofFin b : BitVec 3) ++ o.code] ∧
    ∃ t res, exec i s = .next t ∧
      (∀ k, k < 8 → res.getLsbD k = if k = b.val then v else (s.readR8 o).getLsbD k) ∧
      WroteOperand o res s t ∧ t.sp = s.sp ∧ t.f = s.f ∧ Ordinary 2 (cyclesOn o 8 16) s t

/-! ## Control transfer (46_control.md) -/

/-- JP, JP cc, JP HL, JR and JR cc (R360–R364). -/
def Obligations.JumpsSetPC : Prop :=
  ∀ (a : Word) (e : Byte) (cc : Cond) (s : State),
    (encode (.jp_a16 a) = [0xC3, lo a, hi a] ∧
      ∃ t, exec (.jp_a16 a) s = .next t ∧ t.pc = a ∧ SameData s t ∧ Kept s t ∧ Reported 16 s t) ∧
    (encode (Family.jpCond cc a) = [3#2 ++ 0#1 ++ cc.code ++ 2#3, lo a, hi a] ∧
      ∃ t, exec (Family.jpCond cc a) s = .next t ∧ t.pc = (if s.cond cc then a else seqPC 3 s) ∧ SameData s t ∧
        Kept s t ∧ Reported (if s.cond cc then 16 else 12) s t) ∧
    (encode .jp_HL = [0xE9] ∧
      ∃ t, exec .jp_HL s = .next t ∧ t.pc = s.hl ∧ SameData s t ∧ Kept s t ∧ Reported 4 s t) ∧
    (encode (.jr_e8 e) = [0x18, e] ∧
      ∃ t, exec (.jr_e8 e) s = .next t ∧ t.pc = seqPC 2 s + BitVec.ofInt 16 e.toInt ∧ SameData s t ∧ Kept s t ∧
        Reported 12 s t) ∧
    (encode (Family.jrCond cc e) = [0#2 ++ 1#1 ++ cc.code ++ 0#3, e] ∧
      ∃ t, exec (Family.jrCond cc e) s = .next t ∧
        t.pc = (if s.cond cc then seqPC 2 s + BitVec.ofInt 16 e.toInt else seqPC 2 s) ∧ SameData s t ∧ Kept s t ∧
        Reported (if s.cond cc then 12 else 8) s t)

/-- CALL, CALL cc and RST: the address after the instruction is pushed (R365, R366, R370). -/
def Obligations.CallsPushTheReturnAddress : Prop :=
  ∀ (a : Word) (cc : Cond) (r : Fin 8) (s : State),
    (encode (.call_a16 a) = [0xCD, lo a, hi a] ∧
      ∃ t, exec (.call_a16 a) s = .next t ∧ t.pc = a ∧ t.sp = s.sp - 2 ∧ PushedAt s.sp (seqPC 3 s) s t ∧
        RegsExcept [] s t ∧ t.f = s.f ∧ Kept s t ∧ Reported 24 s t) ∧
    (encode (Family.callCond cc a) = [3#2 ++ 0#1 ++ cc.code ++ 4#3, lo a, hi a] ∧
      ∃ t, exec (Family.callCond cc a) s = .next t ∧ Kept s t ∧
        (s.cond cc = true → t.pc = a ∧ t.sp = s.sp - 2 ∧ PushedAt s.sp (seqPC 3 s) s t ∧ RegsExcept [] s t ∧
          t.f = s.f ∧ Reported 24 s t) ∧
        (s.cond cc = false → t.pc = seqPC 3 s ∧ SameData s t ∧ Reported 12 s t)) ∧
    (encode (Family.rst r) = [3#2 ++ (BitVec.ofFin r : BitVec 3) ++ 7#3] ∧
      ∃ t, exec (Family.rst r) s = .next t ∧ t.pc = BitVec.ofNat 16 (8 * r.val) ∧ t.sp = s.sp - 2 ∧
        PushedAt s.sp (seqPC 1 s) s t ∧ RegsExcept [] s t ∧ t.f = s.f ∧ Kept s t ∧ Reported 16 s t)

/-- RET, RET cc and RETI: PC is popped; RETI also sets IME, clears a pending EI and raises the RETI event
(R367–R369, R433). -/
def Obligations.ReturnsPopPC : Prop :=
  ∀ (cc : Cond) (s : State),
    (encode .ret = [0xC9] ∧
      ∃ t, exec .ret s = .next t ∧ t.pc = stackTop s ∧ t.sp = s.sp + 2 ∧ RegsExcept [] s t ∧ t.f = s.f ∧
        SameMem s t ∧ Kept s t ∧ Reported 16 s t) ∧
    (encode (Family.retCond cc) = [3#2 ++ 0#1 ++ cc.code ++ 0#3] ∧
      ∃ t, exec (Family.retCond cc) s = .next t ∧ RegsExcept [] s t ∧ t.f = s.f ∧ SameMem s t ∧ Kept s t ∧
        (s.cond cc = true → t.pc = stackTop s ∧ t.sp = s.sp + 2 ∧ Reported 20 s t) ∧
        (s.cond cc = false → t.pc = seqPC 1 s ∧ t.sp = s.sp ∧ Reported 8 s t)) ∧
    (encode .reti = [0xD9] ∧
      ∃ t, exec .reti s = .next t ∧ t.pc = stackTop s ∧ t.sp = s.sp + 2 ∧ RegsExcept [] s t ∧ t.f = s.f ∧
        SameMem s t ∧ t.ime = true ∧ t.eiPending = false ∧ t.haltBug = false ∧ t.run = s.run ∧ t.cfg = s.cfg ∧
        t.inputs = s.inputs ∧ t.input = s.input ∧
        t.out = { cycles := cyclesIn s.cfg.cycleUnit 16, accepted := false, reti := true, illegal := none })

/-! ## System instructions (47_system.md) -/

/-- NOP, DI, EI, STOP and HALT, each as the whole next state (R390–R394). -/
def Obligations.SystemInstructions : Prop :=
  ∀ (x : Byte) (s : State) (done : StepResult),
    done = { cycles := cyclesIn s.cfg.cycleUnit 4, accepted := false, reti := false, illegal := none } →
    (encode .nop = [0x00] ∧ exec .nop s = .next { s with pc := seqPC 1 s, haltBug := false, out := done }) ∧
    (encode .di = [0xF3] ∧
      exec .di s = .next { s with pc := seqPC 1 s, haltBug := false, out := done, ime := false, eiPending := false }) ∧
    (encode .ei = [0xFB] ∧
      exec .ei s = .next { s with pc := seqPC 1 s, haltBug := false, out := done, eiPending := true }) ∧
    (encode (.stop x) = [0x10, x] ∧
      exec (.stop x) s = .next { s with pc := seqPC 2 s, haltBug := false, out := done, run := .stopped }) ∧
    (encode .halt = [0x76] ∧
      (s.ime = false ∧ s.input.irqPending = true →
        exec .halt s = .next { s with pc := seqPC 1 s, haltBug := true, out := done }) ∧
      (s.ime = true ∨ s.input.irqPending = false →
        exec .halt s = .next { s with pc := seqPC 1 s, haltBug := false, out := done, run := .halted }))

/-- An undefined opcode locks the core on its own address under LOCK, and is a reported no-op under NOP (R396, R421).
That the report under NOP names the opcode's own address is the model's choice (log 18). -/
def Obligations.UndefinedOpcodesLockOrSkip : Prop :=
  ∀ (u : UndefOp) (s : State) (done : StepResult),
    done = { cycles := cyclesIn s.cfg.cycleUnit 4, accepted := false, reti := false, illegal := some (u.byte, s.pc) } →
    (s.cfg.illegalPolicy = .lock →
      exec (Family.undef u) s = .next { s with haltBug := false, run := .locked u.byte s.pc, out := done }) ∧
    (s.cfg.illegalPolicy = .nop →
      exec (Family.undef u) s = .next { s with pc := seqPC 1 s, haltBug := false, out := done })
end

