-- ==== Sys2Proof/Laws/Flags.lean ====
section
/-! SUPPORT. What each flag function gives: byte order, the bits of F, and the records. -/

namespace Sys2Proof.Laws

open Sys2Proof.Machine

/-! ### Byte order -/

theorem w16_toNat (h l : Byte) : (w16 h l).toNat = h.toNat * 256 + l.toNat := by
  have hl := l.isLt
  simp only [w16, BitVec.toNat_append, Nat.shiftLeft_eq]
  rw [Nat.mul_comm, ← Nat.two_pow_add_eq_or_of_lt hl]

theorem hi_toNat (v : Word) : (hi v).toNat = v.toNat / 256 := by
  have hv := v.isLt
  simp only [hi, BitVec.extractLsb'_toNat, Nat.shiftRight_eq_div_pow]
  omega

theorem lo_toNat (v : Word) : (lo v).toNat = v.toNat % 256 := by
  simp [lo, BitVec.extractLsb'_toNat]

@[simp] theorem hi_w16 (h l : Byte) : hi (w16 h l) = h := by
  apply BitVec.eq_of_toNat_eq
  have := l.isLt
  rw [hi_toNat, w16_toNat]; omega

@[simp] theorem lo_w16 (h l : Byte) : lo (w16 h l) = l := by
  apply BitVec.eq_of_toNat_eq
  have := l.isLt
  rw [lo_toNat, w16_toNat]; omega

@[simp] theorem w16_hi_lo (v : Word) : w16 (hi v) (lo v) = v := by
  apply BitVec.eq_of_toNat_eq
  rw [w16_toNat, hi_toNat, lo_toNat]; omega

theorem getLsbD_w16 (h l : Byte) (i : Nat) :
    (w16 h l).getLsbD i = if i < 8 then l.getLsbD i else h.getLsbD (i - 8) :=
  BitVec.getLsbD_append

theorem getLsbD_hi (v : Word) (i : Nat) : (hi v).getLsbD i = (decide (i < 8) && v.getLsbD (8 + i)) :=
  BitVec.getLsbD_extractLsb' ..

theorem getLsbD_lo (v : Word) (i : Nat) : (lo v).getLsbD i = (decide (i < 8) && v.getLsbD (0 + i)) :=
  BitVec.getLsbD_extractLsb' ..

theorem sext16_eq (e : Byte) : sext16 e = BitVec.ofInt 16 e.toInt := by
  simp [sext16, BitVec.signExtend]

/-! ### F -/

theorem maskF_low (v : Byte) : maskF v &&& 0x0F = 0 := by
  simp only [maskF, BitVec.and_assoc]; simp

@[simp] theorem getFlag_packF (k : FlagKind) (z n h c : Bool) : getFlag k (packF z n h c) =
    match k with | .zero => z | .subtract => n | .halfCarry => h | .carry => c := by
  cases k <;> revert z n h c <;> decide

theorem packF_low (z n h c : Bool) : packF z n h c &&& 0x0F = 0 := by
  revert z n h c; decide

@[simp] theorem getFlag_apply (fl : FlagRec) (k : FlagKind) (f : Byte) : getFlag k (fl.apply f) =
    match k with
    | .zero => fl.z.getD (getFlag .zero f)
    | .subtract => fl.n.getD (getFlag .subtract f)
    | .halfCarry => fl.h.getD (getFlag .halfCarry f)
    | .carry => fl.c.getD (getFlag .carry f) := by
  simp only [FlagRec.apply, getFlag_packF]

/-- Applying a record leaves F's low nibble zero (R160). -/
theorem apply_low (fl : FlagRec) (f : Byte) : fl.apply f &&& 0x0F = 0 := packF_low _ _ _ _

/-- A state whose F is the record applied to the earlier F has the flags of the record. -/
theorem flagsAre_of_apply {s t : State} {fl : FlagRec} (h : t.f = fl.apply s.f) :
    FlagsAre (fl.z.getD s.flagZ) (fl.n.getD s.flagN) (fl.h.getD s.flagH) (fl.c.getD s.flagC) t := by
  refine ⟨?_, ?_, ?_, ?_, by rw [h]; exact apply_low fl s.f⟩ <;>
    simp [State.flagZ, State.flagN, State.flagH, State.flagC, State.flag, h]

/-! ### The records -/

theorem lowNibble_eq (v : Byte) : lowNibble v = v.toNat % 16 := by
  simp only [lowNibble, BitVec.toNat_and]
  exact Nat.and_two_pow_sub_one_eq_mod v.toNat 4

theorem add8_toNat (a b : Byte) (cin : Bool) :
    (add8 a b cin).1.toNat = (a.toNat + b.toNat + cin.toNat) % 256 := by
  simp [add8]

theorem sub8_toNat (a b : Byte) (cin : Bool) :
    ((sub8 a b cin).1.toNat + b.toNat + cin.toNat) % 256 = a.toNat := by
  have ha := a.isLt
  have hb := b.isLt
  have hc : cin.toNat ≤ 1 := by cases cin <;> decide
  simp only [sub8, BitVec.toNat_ofInt]
  omega

/-- INC: the result, and the record in numbers (R176). -/
theorem inc8_eq (v : Byte) :
    inc8 v = (v + 1, ⟨some (decide (v.toNat = 255)), some false, some (decide (v.toNat % 16 = 15)), none⟩) := by
  revert v; decide

/-- DEC: the result, and the record in numbers (R176). -/
theorem dec8_eq (v : Byte) :
    dec8 v = (v - 1, ⟨some (decide (v.toNat = 1)), some true, some (decide (v.toNat % 16 = 0)), none⟩) := by
  revert v; decide

/-- DAA after an add, in numbers (R171). -/
theorem daaAdd_toNat (a : Byte) (h c up : Bool) (mid : Nat) (hup : up = (c || decide (a.toNat > 0x99)))
    (hmid : mid = (a.toNat + if up then 0x60 else 0) % 256) : (daaAdd a h c).2 = up ∧
      (daaAdd a h c).1.toNat = (mid + if h || decide (mid % 16 > 9) then 0x06 else 0) % 256 := by
  subst hmid hup
  cases h <;> cases c <;> revert a <;> decide

/-- DAA after a subtract, in numbers (R171). -/
theorem daaSub_toNat (a : Byte) (h c : Bool) : (daaSub a h c).2 = c ∧
    ((daaSub a h c).1.toNat + (if c then 0x60 else 0) + if h then 0x06 else 0) % 256 = a.toNat := by
  cases h <;> cases c <;> revert a <;> decide

/-- ADD and ADC: a state that holds `add8`'s result and record. -/
theorem sumInA_of_apply {x y : Byte} {cin : Bool} {s t : State} (ha : t.a = (add8 x y cin).1)
    (hf : t.f = (add8 x y cin).2.apply s.f) : SumInA x y cin t := by
  refine ⟨by rw [ha, add8_toNat], ?_⟩
  have h := flagsAre_of_apply hf
  simp only [add8, Option.getD_some, lowNibble_eq] at h
  rw [ha]
  exact h

/-- SUB, SBC and CP: a state that holds `sub8`'s record. -/
theorem differenceFlags_of_apply {x y : Byte} {cin : Bool} {s t : State} (hf : t.f = (sub8 x y cin).2.apply s.f) :
    DifferenceFlags x y cin t := by
  have h := flagsAre_of_apply hf
  have hz : (sub8 x y cin).1 = 0#8 ↔ x.toNat % 256 = (y.toNat + cin.toNat) % 256 := by
    rw [← BitVec.toNat_inj]
    have e := sub8_toNat x y cin
    have hr := (sub8 x y cin).1.isLt
    have hx := x.isLt
    have hy := y.isLt
    have hc : cin.toNat ≤ 1 := by cases cin <;> decide
    simp
    omega
  have hz' : (sub8 x y cin).2.z = some (decide (x.toNat % 256 = (y.toNat + cin.toNat) % 256)) := by
    show some (decide ((sub8 x y cin).1 = 0#8)) = _
    simp [hz]
  rw [hz'] at h
  simp only [sub8, Option.getD_some, lowNibble_eq] at h
  exact h

/-- ADD SP,e8 and LD HL,SP+e8: a state that holds `addsp`'s record (R165). -/
theorem addsp_flags {sp : Word} {e : Byte} {s t : State} (hf : t.f = (addsp sp e).2.apply s.f) :
    FlagsAre false false (decide (sp.toNat % 16 + e.toNat % 16 > 15)) (decide (sp.toNat % 256 + e.toNat > 255)) t := by
  have h := flagsAre_of_apply hf
  have e1 : (sp &&& 0x0F).toNat = sp.toNat % 16 := Nat.and_two_pow_sub_one_eq_mod _ 4
  have e2 : (sp &&& 0xFF).toNat = sp.toNat % 256 := Nat.and_two_pow_sub_one_eq_mod _ 8
  simp only [addsp, Option.getD_some, lowNibble_eq, e1, e2] at h
  exact h

/-- ADD HL,rr: a state that holds `add16`'s record (R164). -/
theorem add16_flags {x y : Word} {s t : State} (hf : t.f = (add16 x y).2.apply s.f) :
    FlagsAre s.flagZ false (decide (x.toNat % 4096 + y.toNat % 4096 > 4095)) (decide (x.toNat + y.toNat > 65535)) t := by
  have h := flagsAre_of_apply hf
  have e (v : Word) : (v &&& 0x0FFF).toNat = v.toNat % 4096 := Nat.and_two_pow_sub_one_eq_mod _ 12
  simp only [add16, Option.getD_some, Option.getD_none, e] at h
  exact h

/-- A rotate's or shift's result, bit by bit (R168, R169). -/
theorem rotOn_bit (op : RotOp) (v : Byte) (cin : Bool) {k : Nat} (hk : k < 8) :
    (rotOn op v cin).1.getLsbD k = movedBit op v cin k := by
  have : k = 0 ∨ k = 1 ∨ k = 2 ∨ k = 3 ∨ k = 4 ∨ k = 5 ∨ k = 6 ∨ k = 7 := by omega
  rcases this with rfl | rfl | rfl | rfl | rfl | rfl | rfl | rfl <;> cases op <;> cases cin <;>
    simp [rotOn, movedBit, rotRlc, rotRrc, rotRl, rotRr, shiftSla, shiftSra, shiftSrl, swapNibbles, bitByte] <;>
    revert v <;> decide

/-- A rotate's or shift's record: C is the bit shifted out. -/
theorem rotOn_record (op : RotOp) (v : Byte) (cin : Bool) :
    (rotOn op v cin).2 = shiftRec (rotOn op v cin).1 (outBit op v) := by
  cases op <;> rfl

end Sys2Proof.Laws
end

