-- ==== Sys2Proof/Laws/Decode.lean ====
section
/-! SUPPORT. Decoding looks at an instruction's own bytes only (30_encoding.md R124, R126). -/

namespace Sys2Proof.Laws

open Sys2Proof.Machine

/-- Bytes that start with a well-formed instruction's encoding decode to it, whatever follows. -/
theorem decodeBytes_of_bytes {i : Instr} (hw : WellFormed i = true) {bytes : Nat → Byte}
    (h : ∀ k b, (encode i)[k]? = some b → bytes k = b) : decodeBytes (bytes 0) (bytes 1) (bytes 2) = i := by
  cases i
  case prefix_CB => exact absurd hw Bool.false_ne_true
  all_goals first
    | (rename_i v
       rw [h 0 _ rfl, h 1 _ rfl, h 2 _ rfl]
       conv => rhs; rw [← w16_hi_lo v]
       rfl)
    | (rw [h 0 _ rfl, h 1 _ rfl]; rfl)
    | (rw [h 0 _ rfl]; rfl)

end Sys2Proof.Laws
end

