-- ==== Sys2Proof/Laws/State.lean ====
section
/-! SUPPORT. What each named update leaves in each field: one lemma a field, so that no later proof unfolds a record
update. -/

namespace Sys2Proof.Laws

open Sys2Proof.Machine

/-! ### `setF` -/

@[simp] theorem setF_a (s : State) (v : Byte) : (s.setF v).a = s.a := rfl
@[simp] theorem setF_f (s : State) (v : Byte) : (s.setF v).f = maskF v := rfl
@[simp] theorem setF_b (s : State) (v : Byte) : (s.setF v).b = s.b := rfl
@[simp] theorem setF_c (s : State) (v : Byte) : (s.setF v).c = s.c := rfl
@[simp] theorem setF_d (s : State) (v : Byte) : (s.setF v).d = s.d := rfl
@[simp] theorem setF_e (s : State) (v : Byte) : (s.setF v).e = s.e := rfl
@[simp] theorem setF_h (s : State) (v : Byte) : (s.setF v).h = s.h := rfl
@[simp] theorem setF_l (s : State) (v : Byte) : (s.setF v).l = s.l := rfl
@[simp] theorem setF_sp (s : State) (v : Byte) : (s.setF v).sp = s.sp := rfl
@[simp] theorem setF_pc (s : State) (v : Byte) : (s.setF v).pc = s.pc := rfl
@[simp] theorem setF_ime (s : State) (v : Byte) : (s.setF v).ime = s.ime := rfl
@[simp] theorem setF_eiPending (s : State) (v : Byte) : (s.setF v).eiPending = s.eiPending := rfl
@[simp] theorem setF_haltBug (s : State) (v : Byte) : (s.setF v).haltBug = s.haltBug := rfl
@[simp] theorem setF_run (s : State) (v : Byte) : (s.setF v).run = s.run := rfl
@[simp] theorem setF_mem (s : State) (v : Byte) : (s.setF v).mem = s.mem := rfl
@[simp] theorem setF_cfg (s : State) (v : Byte) : (s.setF v).cfg = s.cfg := rfl
@[simp] theorem setF_inputs (s : State) (v : Byte) : (s.setF v).inputs = s.inputs := rfl
@[simp] theorem setF_input (s : State) (v : Byte) : (s.setF v).input = s.input := rfl
@[simp] theorem setF_out (s : State) (v : Byte) : (s.setF v).out = s.out := rfl

/-! ### `setAF` -/

@[simp] theorem setAF_a (s : State) (v : Word) : (s.setAF v).a = hi v := rfl
@[simp] theorem setAF_f (s : State) (v : Word) : (s.setAF v).f = maskF (lo v) := rfl
@[simp] theorem setAF_b (s : State) (v : Word) : (s.setAF v).b = s.b := rfl
@[simp] theorem setAF_c (s : State) (v : Word) : (s.setAF v).c = s.c := rfl
@[simp] theorem setAF_d (s : State) (v : Word) : (s.setAF v).d = s.d := rfl
@[simp] theorem setAF_e (s : State) (v : Word) : (s.setAF v).e = s.e := rfl
@[simp] theorem setAF_h (s : State) (v : Word) : (s.setAF v).h = s.h := rfl
@[simp] theorem setAF_l (s : State) (v : Word) : (s.setAF v).l = s.l := rfl
@[simp] theorem setAF_sp (s : State) (v : Word) : (s.setAF v).sp = s.sp := rfl
@[simp] theorem setAF_pc (s : State) (v : Word) : (s.setAF v).pc = s.pc := rfl
@[simp] theorem setAF_ime (s : State) (v : Word) : (s.setAF v).ime = s.ime := rfl
@[simp] theorem setAF_eiPending (s : State) (v : Word) : (s.setAF v).eiPending = s.eiPending := rfl
@[simp] theorem setAF_haltBug (s : State) (v : Word) : (s.setAF v).haltBug = s.haltBug := rfl
@[simp] theorem setAF_run (s : State) (v : Word) : (s.setAF v).run = s.run := rfl
@[simp] theorem setAF_mem (s : State) (v : Word) : (s.setAF v).mem = s.mem := rfl
@[simp] theorem setAF_cfg (s : State) (v : Word) : (s.setAF v).cfg = s.cfg := rfl
@[simp] theorem setAF_inputs (s : State) (v : Word) : (s.setAF v).inputs = s.inputs := rfl
@[simp] theorem setAF_input (s : State) (v : Word) : (s.setAF v).input = s.input := rfl
@[simp] theorem setAF_out (s : State) (v : Word) : (s.setAF v).out = s.out := rfl

/-! ### `setBC` -/

@[simp] theorem setBC_a (s : State) (v : Word) : (s.setBC v).a = s.a := rfl
@[simp] theorem setBC_f (s : State) (v : Word) : (s.setBC v).f = s.f := rfl
@[simp] theorem setBC_b (s : State) (v : Word) : (s.setBC v).b = hi v := rfl
@[simp] theorem setBC_c (s : State) (v : Word) : (s.setBC v).c = lo v := rfl
@[simp] theorem setBC_d (s : State) (v : Word) : (s.setBC v).d = s.d := rfl
@[simp] theorem setBC_e (s : State) (v : Word) : (s.setBC v).e = s.e := rfl
@[simp] theorem setBC_h (s : State) (v : Word) : (s.setBC v).h = s.h := rfl
@[simp] theorem setBC_l (s : State) (v : Word) : (s.setBC v).l = s.l := rfl
@[simp] theorem setBC_sp (s : State) (v : Word) : (s.setBC v).sp = s.sp := rfl
@[simp] theorem setBC_pc (s : State) (v : Word) : (s.setBC v).pc = s.pc := rfl
@[simp] theorem setBC_ime (s : State) (v : Word) : (s.setBC v).ime = s.ime := rfl
@[simp] theorem setBC_eiPending (s : State) (v : Word) : (s.setBC v).eiPending = s.eiPending := rfl
@[simp] theorem setBC_haltBug (s : State) (v : Word) : (s.setBC v).haltBug = s.haltBug := rfl
@[simp] theorem setBC_run (s : State) (v : Word) : (s.setBC v).run = s.run := rfl
@[simp] theorem setBC_mem (s : State) (v : Word) : (s.setBC v).mem = s.mem := rfl
@[simp] theorem setBC_cfg (s : State) (v : Word) : (s.setBC v).cfg = s.cfg := rfl
@[simp] theorem setBC_inputs (s : State) (v : Word) : (s.setBC v).inputs = s.inputs := rfl
@[simp] theorem setBC_input (s : State) (v : Word) : (s.setBC v).input = s.input := rfl
@[simp] theorem setBC_out (s : State) (v : Word) : (s.setBC v).out = s.out := rfl

/-! ### `setDE` -/

@[simp] theorem setDE_a (s : State) (v : Word) : (s.setDE v).a = s.a := rfl
@[simp] theorem setDE_f (s : State) (v : Word) : (s.setDE v).f = s.f := rfl
@[simp] theorem setDE_b (s : State) (v : Word) : (s.setDE v).b = s.b := rfl
@[simp] theorem setDE_c (s : State) (v : Word) : (s.setDE v).c = s.c := rfl
@[simp] theorem setDE_d (s : State) (v : Word) : (s.setDE v).d = hi v := rfl
@[simp] theorem setDE_e (s : State) (v : Word) : (s.setDE v).e = lo v := rfl
@[simp] theorem setDE_h (s : State) (v : Word) : (s.setDE v).h = s.h := rfl
@[simp] theorem setDE_l (s : State) (v : Word) : (s.setDE v).l = s.l := rfl
@[simp] theorem setDE_sp (s : State) (v : Word) : (s.setDE v).sp = s.sp := rfl
@[simp] theorem setDE_pc (s : State) (v : Word) : (s.setDE v).pc = s.pc := rfl
@[simp] theorem setDE_ime (s : State) (v : Word) : (s.setDE v).ime = s.ime := rfl
@[simp] theorem setDE_eiPending (s : State) (v : Word) : (s.setDE v).eiPending = s.eiPending := rfl
@[simp] theorem setDE_haltBug (s : State) (v : Word) : (s.setDE v).haltBug = s.haltBug := rfl
@[simp] theorem setDE_run (s : State) (v : Word) : (s.setDE v).run = s.run := rfl
@[simp] theorem setDE_mem (s : State) (v : Word) : (s.setDE v).mem = s.mem := rfl
@[simp] theorem setDE_cfg (s : State) (v : Word) : (s.setDE v).cfg = s.cfg := rfl
@[simp] theorem setDE_inputs (s : State) (v : Word) : (s.setDE v).inputs = s.inputs := rfl
@[simp] theorem setDE_input (s : State) (v : Word) : (s.setDE v).input = s.input := rfl
@[simp] theorem setDE_out (s : State) (v : Word) : (s.setDE v).out = s.out := rfl

/-! ### `setHL` -/

@[simp] theorem setHL_a (s : State) (v : Word) : (s.setHL v).a = s.a := rfl
@[simp] theorem setHL_f (s : State) (v : Word) : (s.setHL v).f = s.f := rfl
@[simp] theorem setHL_b (s : State) (v : Word) : (s.setHL v).b = s.b := rfl
@[simp] theorem setHL_c (s : State) (v : Word) : (s.setHL v).c = s.c := rfl
@[simp] theorem setHL_d (s : State) (v : Word) : (s.setHL v).d = s.d := rfl
@[simp] theorem setHL_e (s : State) (v : Word) : (s.setHL v).e = s.e := rfl
@[simp] theorem setHL_h (s : State) (v : Word) : (s.setHL v).h = hi v := rfl
@[simp] theorem setHL_l (s : State) (v : Word) : (s.setHL v).l = lo v := rfl
@[simp] theorem setHL_sp (s : State) (v : Word) : (s.setHL v).sp = s.sp := rfl
@[simp] theorem setHL_pc (s : State) (v : Word) : (s.setHL v).pc = s.pc := rfl
@[simp] theorem setHL_ime (s : State) (v : Word) : (s.setHL v).ime = s.ime := rfl
@[simp] theorem setHL_eiPending (s : State) (v : Word) : (s.setHL v).eiPending = s.eiPending := rfl
@[simp] theorem setHL_haltBug (s : State) (v : Word) : (s.setHL v).haltBug = s.haltBug := rfl
@[simp] theorem setHL_run (s : State) (v : Word) : (s.setHL v).run = s.run := rfl
@[simp] theorem setHL_mem (s : State) (v : Word) : (s.setHL v).mem = s.mem := rfl
@[simp] theorem setHL_cfg (s : State) (v : Word) : (s.setHL v).cfg = s.cfg := rfl
@[simp] theorem setHL_inputs (s : State) (v : Word) : (s.setHL v).inputs = s.inputs := rfl
@[simp] theorem setHL_input (s : State) (v : Word) : (s.setHL v).input = s.input := rfl
@[simp] theorem setHL_out (s : State) (v : Word) : (s.setHL v).out = s.out := rfl

/-! ### `applyFlags` -/

@[simp] theorem applyFlags_a (s : State) (fl : FlagRec) : (s.applyFlags fl).a = s.a := rfl
@[simp] theorem applyFlags_f (s : State) (fl : FlagRec) : (s.applyFlags fl).f = fl.apply s.f := rfl
@[simp] theorem applyFlags_b (s : State) (fl : FlagRec) : (s.applyFlags fl).b = s.b := rfl
@[simp] theorem applyFlags_c (s : State) (fl : FlagRec) : (s.applyFlags fl).c = s.c := rfl
@[simp] theorem applyFlags_d (s : State) (fl : FlagRec) : (s.applyFlags fl).d = s.d := rfl
@[simp] theorem applyFlags_e (s : State) (fl : FlagRec) : (s.applyFlags fl).e = s.e := rfl
@[simp] theorem applyFlags_h (s : State) (fl : FlagRec) : (s.applyFlags fl).h = s.h := rfl
@[simp] theorem applyFlags_l (s : State) (fl : FlagRec) : (s.applyFlags fl).l = s.l := rfl
@[simp] theorem applyFlags_sp (s : State) (fl : FlagRec) : (s.applyFlags fl).sp = s.sp := rfl
@[simp] theorem applyFlags_pc (s : State) (fl : FlagRec) : (s.applyFlags fl).pc = s.pc := rfl
@[simp] theorem applyFlags_ime (s : State) (fl : FlagRec) : (s.applyFlags fl).ime = s.ime := rfl
@[simp] theorem applyFlags_eiPending (s : State) (fl : FlagRec) : (s.applyFlags fl).eiPending = s.eiPending := rfl
@[simp] theorem applyFlags_haltBug (s : State) (fl : FlagRec) : (s.applyFlags fl).haltBug = s.haltBug := rfl
@[simp] theorem applyFlags_run (s : State) (fl : FlagRec) : (s.applyFlags fl).run = s.run := rfl
@[simp] theorem applyFlags_mem (s : State) (fl : FlagRec) : (s.applyFlags fl).mem = s.mem := rfl
@[simp] theorem applyFlags_cfg (s : State) (fl : FlagRec) : (s.applyFlags fl).cfg = s.cfg := rfl
@[simp] theorem applyFlags_inputs (s : State) (fl : FlagRec) : (s.applyFlags fl).inputs = s.inputs := rfl
@[simp] theorem applyFlags_input (s : State) (fl : FlagRec) : (s.applyFlags fl).input = s.input := rfl
@[simp] theorem applyFlags_out (s : State) (fl : FlagRec) : (s.applyFlags fl).out = s.out := rfl

/-! ### `putA` -/

@[simp] theorem putA_a (s : State) (r : Byte × FlagRec) : (s.putA r).a = r.1 := rfl
@[simp] theorem putA_f (s : State) (r : Byte × FlagRec) : (s.putA r).f = r.2.apply s.f := rfl
@[simp] theorem putA_b (s : State) (r : Byte × FlagRec) : (s.putA r).b = s.b := rfl
@[simp] theorem putA_c (s : State) (r : Byte × FlagRec) : (s.putA r).c = s.c := rfl
@[simp] theorem putA_d (s : State) (r : Byte × FlagRec) : (s.putA r).d = s.d := rfl
@[simp] theorem putA_e (s : State) (r : Byte × FlagRec) : (s.putA r).e = s.e := rfl
@[simp] theorem putA_h (s : State) (r : Byte × FlagRec) : (s.putA r).h = s.h := rfl
@[simp] theorem putA_l (s : State) (r : Byte × FlagRec) : (s.putA r).l = s.l := rfl
@[simp] theorem putA_sp (s : State) (r : Byte × FlagRec) : (s.putA r).sp = s.sp := rfl
@[simp] theorem putA_pc (s : State) (r : Byte × FlagRec) : (s.putA r).pc = s.pc := rfl
@[simp] theorem putA_ime (s : State) (r : Byte × FlagRec) : (s.putA r).ime = s.ime := rfl
@[simp] theorem putA_eiPending (s : State) (r : Byte × FlagRec) : (s.putA r).eiPending = s.eiPending := rfl
@[simp] theorem putA_haltBug (s : State) (r : Byte × FlagRec) : (s.putA r).haltBug = s.haltBug := rfl
@[simp] theorem putA_run (s : State) (r : Byte × FlagRec) : (s.putA r).run = s.run := rfl
@[simp] theorem putA_mem (s : State) (r : Byte × FlagRec) : (s.putA r).mem = s.mem := rfl
@[simp] theorem putA_cfg (s : State) (r : Byte × FlagRec) : (s.putA r).cfg = s.cfg := rfl
@[simp] theorem putA_inputs (s : State) (r : Byte × FlagRec) : (s.putA r).inputs = s.inputs := rfl
@[simp] theorem putA_input (s : State) (r : Byte × FlagRec) : (s.putA r).input = s.input := rfl
@[simp] theorem putA_out (s : State) (r : Byte × FlagRec) : (s.putA r).out = s.out := rfl

/-! ### `write8` -/

@[simp] theorem write8_a (s : State) (x : Word) (v : Byte) : (s.write8 x v).a = s.a := rfl
@[simp] theorem write8_f (s : State) (x : Word) (v : Byte) : (s.write8 x v).f = s.f := rfl
@[simp] theorem write8_b (s : State) (x : Word) (v : Byte) : (s.write8 x v).b = s.b := rfl
@[simp] theorem write8_c (s : State) (x : Word) (v : Byte) : (s.write8 x v).c = s.c := rfl
@[simp] theorem write8_d (s : State) (x : Word) (v : Byte) : (s.write8 x v).d = s.d := rfl
@[simp] theorem write8_e (s : State) (x : Word) (v : Byte) : (s.write8 x v).e = s.e := rfl
@[simp] theorem write8_h (s : State) (x : Word) (v : Byte) : (s.write8 x v).h = s.h := rfl
@[simp] theorem write8_l (s : State) (x : Word) (v : Byte) : (s.write8 x v).l = s.l := rfl
@[simp] theorem write8_sp (s : State) (x : Word) (v : Byte) : (s.write8 x v).sp = s.sp := rfl
@[simp] theorem write8_pc (s : State) (x : Word) (v : Byte) : (s.write8 x v).pc = s.pc := rfl
@[simp] theorem write8_ime (s : State) (x : Word) (v : Byte) : (s.write8 x v).ime = s.ime := rfl
@[simp] theorem write8_eiPending (s : State) (x : Word) (v : Byte) : (s.write8 x v).eiPending = s.eiPending := rfl
@[simp] theorem write8_haltBug (s : State) (x : Word) (v : Byte) : (s.write8 x v).haltBug = s.haltBug := rfl
@[simp] theorem write8_run (s : State) (x : Word) (v : Byte) : (s.write8 x v).run = s.run := rfl
@[simp] theorem write8_mem (s : State) (x : Word) (v : Byte) : (s.write8 x v).mem = s.mem.write8 x v := rfl
@[simp] theorem write8_cfg (s : State) (x : Word) (v : Byte) : (s.write8 x v).cfg = s.cfg := rfl
@[simp] theorem write8_inputs (s : State) (x : Word) (v : Byte) : (s.write8 x v).inputs = s.inputs := rfl
@[simp] theorem write8_input (s : State) (x : Word) (v : Byte) : (s.write8 x v).input = s.input := rfl
@[simp] theorem write8_out (s : State) (x : Word) (v : Byte) : (s.write8 x v).out = s.out := rfl

/-! ### `write16` -/

@[simp] theorem write16_a (s : State) (x v : Word) : (s.write16 x v).a = s.a := rfl
@[simp] theorem write16_f (s : State) (x v : Word) : (s.write16 x v).f = s.f := rfl
@[simp] theorem write16_b (s : State) (x v : Word) : (s.write16 x v).b = s.b := rfl
@[simp] theorem write16_c (s : State) (x v : Word) : (s.write16 x v).c = s.c := rfl
@[simp] theorem write16_d (s : State) (x v : Word) : (s.write16 x v).d = s.d := rfl
@[simp] theorem write16_e (s : State) (x v : Word) : (s.write16 x v).e = s.e := rfl
@[simp] theorem write16_h (s : State) (x v : Word) : (s.write16 x v).h = s.h := rfl
@[simp] theorem write16_l (s : State) (x v : Word) : (s.write16 x v).l = s.l := rfl
@[simp] theorem write16_sp (s : State) (x v : Word) : (s.write16 x v).sp = s.sp := rfl
@[simp] theorem write16_pc (s : State) (x v : Word) : (s.write16 x v).pc = s.pc := rfl
@[simp] theorem write16_ime (s : State) (x v : Word) : (s.write16 x v).ime = s.ime := rfl
@[simp] theorem write16_eiPending (s : State) (x v : Word) : (s.write16 x v).eiPending = s.eiPending := rfl
@[simp] theorem write16_haltBug (s : State) (x v : Word) : (s.write16 x v).haltBug = s.haltBug := rfl
@[simp] theorem write16_run (s : State) (x v : Word) : (s.write16 x v).run = s.run := rfl
@[simp] theorem write16_mem (s : State) (x v : Word) : (s.write16 x v).mem = (s.mem.write8 x (lo v)).write8 (x + 1) (hi v) := rfl
@[simp] theorem write16_cfg (s : State) (x v : Word) : (s.write16 x v).cfg = s.cfg := rfl
@[simp] theorem write16_inputs (s : State) (x v : Word) : (s.write16 x v).inputs = s.inputs := rfl
@[simp] theorem write16_input (s : State) (x v : Word) : (s.write16 x v).input = s.input := rfl
@[simp] theorem write16_out (s : State) (x v : Word) : (s.write16 x v).out = s.out := rfl

/-! ### `push16` -/

@[simp] theorem push16_a (s : State) (v : Word) : (s.push16 v).a = s.a := rfl
@[simp] theorem push16_f (s : State) (v : Word) : (s.push16 v).f = s.f := rfl
@[simp] theorem push16_b (s : State) (v : Word) : (s.push16 v).b = s.b := rfl
@[simp] theorem push16_c (s : State) (v : Word) : (s.push16 v).c = s.c := rfl
@[simp] theorem push16_d (s : State) (v : Word) : (s.push16 v).d = s.d := rfl
@[simp] theorem push16_e (s : State) (v : Word) : (s.push16 v).e = s.e := rfl
@[simp] theorem push16_h (s : State) (v : Word) : (s.push16 v).h = s.h := rfl
@[simp] theorem push16_l (s : State) (v : Word) : (s.push16 v).l = s.l := rfl
@[simp] theorem push16_sp (s : State) (v : Word) : (s.push16 v).sp = s.sp - 1 - 1 := rfl
@[simp] theorem push16_pc (s : State) (v : Word) : (s.push16 v).pc = s.pc := rfl
@[simp] theorem push16_ime (s : State) (v : Word) : (s.push16 v).ime = s.ime := rfl
@[simp] theorem push16_eiPending (s : State) (v : Word) : (s.push16 v).eiPending = s.eiPending := rfl
@[simp] theorem push16_haltBug (s : State) (v : Word) : (s.push16 v).haltBug = s.haltBug := rfl
@[simp] theorem push16_run (s : State) (v : Word) : (s.push16 v).run = s.run := rfl
@[simp] theorem push16_mem (s : State) (v : Word) : (s.push16 v).mem = (s.mem.write8 (s.sp - 1) (hi v)).write8 (s.sp - 1 - 1) (lo v) := rfl
@[simp] theorem push16_cfg (s : State) (v : Word) : (s.push16 v).cfg = s.cfg := rfl
@[simp] theorem push16_inputs (s : State) (v : Word) : (s.push16 v).inputs = s.inputs := rfl
@[simp] theorem push16_input (s : State) (v : Word) : (s.push16 v).input = s.input := rfl
@[simp] theorem push16_out (s : State) (v : Word) : (s.push16 v).out = s.out := rfl

/-! ### `pop16` -/

@[simp] theorem pop16_a (s : State) : (s.pop16.2).a = s.a := rfl
@[simp] theorem pop16_f (s : State) : (s.pop16.2).f = s.f := rfl
@[simp] theorem pop16_b (s : State) : (s.pop16.2).b = s.b := rfl
@[simp] theorem pop16_c (s : State) : (s.pop16.2).c = s.c := rfl
@[simp] theorem pop16_d (s : State) : (s.pop16.2).d = s.d := rfl
@[simp] theorem pop16_e (s : State) : (s.pop16.2).e = s.e := rfl
@[simp] theorem pop16_h (s : State) : (s.pop16.2).h = s.h := rfl
@[simp] theorem pop16_l (s : State) : (s.pop16.2).l = s.l := rfl
@[simp] theorem pop16_sp (s : State) : (s.pop16.2).sp = s.sp + 1 + 1 := rfl
@[simp] theorem pop16_pc (s : State) : (s.pop16.2).pc = s.pc := rfl
@[simp] theorem pop16_ime (s : State) : (s.pop16.2).ime = s.ime := rfl
@[simp] theorem pop16_eiPending (s : State) : (s.pop16.2).eiPending = s.eiPending := rfl
@[simp] theorem pop16_haltBug (s : State) : (s.pop16.2).haltBug = s.haltBug := rfl
@[simp] theorem pop16_run (s : State) : (s.pop16.2).run = s.run := rfl
@[simp] theorem pop16_mem (s : State) : (s.pop16.2).mem = s.mem := rfl
@[simp] theorem pop16_cfg (s : State) : (s.pop16.2).cfg = s.cfg := rfl
@[simp] theorem pop16_inputs (s : State) : (s.pop16.2).inputs = s.inputs := rfl
@[simp] theorem pop16_input (s : State) : (s.pop16.2).input = s.input := rfl
@[simp] theorem pop16_out (s : State) : (s.pop16.2).out = s.out := rfl

/-! ### `report` -/

@[simp] theorem report_a (s : State) (t : Nat) : (s.report t).a = s.a := rfl
@[simp] theorem report_f (s : State) (t : Nat) : (s.report t).f = s.f := rfl
@[simp] theorem report_b (s : State) (t : Nat) : (s.report t).b = s.b := rfl
@[simp] theorem report_c (s : State) (t : Nat) : (s.report t).c = s.c := rfl
@[simp] theorem report_d (s : State) (t : Nat) : (s.report t).d = s.d := rfl
@[simp] theorem report_e (s : State) (t : Nat) : (s.report t).e = s.e := rfl
@[simp] theorem report_h (s : State) (t : Nat) : (s.report t).h = s.h := rfl
@[simp] theorem report_l (s : State) (t : Nat) : (s.report t).l = s.l := rfl
@[simp] theorem report_sp (s : State) (t : Nat) : (s.report t).sp = s.sp := rfl
@[simp] theorem report_pc (s : State) (t : Nat) : (s.report t).pc = s.pc := rfl
@[simp] theorem report_ime (s : State) (t : Nat) : (s.report t).ime = s.ime := rfl
@[simp] theorem report_eiPending (s : State) (t : Nat) : (s.report t).eiPending = s.eiPending := rfl
@[simp] theorem report_haltBug (s : State) (t : Nat) : (s.report t).haltBug = s.haltBug := rfl
@[simp] theorem report_run (s : State) (t : Nat) : (s.report t).run = s.run := rfl
@[simp] theorem report_mem (s : State) (t : Nat) : (s.report t).mem = s.mem := rfl
@[simp] theorem report_cfg (s : State) (t : Nat) : (s.report t).cfg = s.cfg := rfl
@[simp] theorem report_inputs (s : State) (t : Nat) : (s.report t).inputs = s.inputs := rfl
@[simp] theorem report_input (s : State) (t : Nat) : (s.report t).input = s.input := rfl
@[simp] theorem report_out (s : State) (t : Nat) : (s.report t).out = { cycles := cyclesIn s.cfg.cycleUnit t, accepted := false, reti := false, illegal := none } := rfl

/-! ### `reportAccepted` -/

@[simp] theorem reportAccepted_a (s : State) (t : Nat) : (s.reportAccepted t).a = s.a := rfl
@[simp] theorem reportAccepted_f (s : State) (t : Nat) : (s.reportAccepted t).f = s.f := rfl
@[simp] theorem reportAccepted_b (s : State) (t : Nat) : (s.reportAccepted t).b = s.b := rfl
@[simp] theorem reportAccepted_c (s : State) (t : Nat) : (s.reportAccepted t).c = s.c := rfl
@[simp] theorem reportAccepted_d (s : State) (t : Nat) : (s.reportAccepted t).d = s.d := rfl
@[simp] theorem reportAccepted_e (s : State) (t : Nat) : (s.reportAccepted t).e = s.e := rfl
@[simp] theorem reportAccepted_h (s : State) (t : Nat) : (s.reportAccepted t).h = s.h := rfl
@[simp] theorem reportAccepted_l (s : State) (t : Nat) : (s.reportAccepted t).l = s.l := rfl
@[simp] theorem reportAccepted_sp (s : State) (t : Nat) : (s.reportAccepted t).sp = s.sp := rfl
@[simp] theorem reportAccepted_pc (s : State) (t : Nat) : (s.reportAccepted t).pc = s.pc := rfl
@[simp] theorem reportAccepted_ime (s : State) (t : Nat) : (s.reportAccepted t).ime = s.ime := rfl
@[simp] theorem reportAccepted_eiPending (s : State) (t : Nat) : (s.reportAccepted t).eiPending = s.eiPending := rfl
@[simp] theorem reportAccepted_haltBug (s : State) (t : Nat) : (s.reportAccepted t).haltBug = s.haltBug := rfl
@[simp] theorem reportAccepted_run (s : State) (t : Nat) : (s.reportAccepted t).run = s.run := rfl
@[simp] theorem reportAccepted_mem (s : State) (t : Nat) : (s.reportAccepted t).mem = s.mem := rfl
@[simp] theorem reportAccepted_cfg (s : State) (t : Nat) : (s.reportAccepted t).cfg = s.cfg := rfl
@[simp] theorem reportAccepted_inputs (s : State) (t : Nat) : (s.reportAccepted t).inputs = s.inputs := rfl
@[simp] theorem reportAccepted_input (s : State) (t : Nat) : (s.reportAccepted t).input = s.input := rfl
@[simp] theorem reportAccepted_out (s : State) (t : Nat) : (s.reportAccepted t).out = { cycles := cyclesIn s.cfg.cycleUnit t, accepted := true, reti := false, illegal := none } := rfl

/-! ### `reportReti` -/

@[simp] theorem reportReti_a (s : State) (t : Nat) : (s.reportReti t).a = s.a := rfl
@[simp] theorem reportReti_f (s : State) (t : Nat) : (s.reportReti t).f = s.f := rfl
@[simp] theorem reportReti_b (s : State) (t : Nat) : (s.reportReti t).b = s.b := rfl
@[simp] theorem reportReti_c (s : State) (t : Nat) : (s.reportReti t).c = s.c := rfl
@[simp] theorem reportReti_d (s : State) (t : Nat) : (s.reportReti t).d = s.d := rfl
@[simp] theorem reportReti_e (s : State) (t : Nat) : (s.reportReti t).e = s.e := rfl
@[simp] theorem reportReti_h (s : State) (t : Nat) : (s.reportReti t).h = s.h := rfl
@[simp] theorem reportReti_l (s : State) (t : Nat) : (s.reportReti t).l = s.l := rfl
@[simp] theorem reportReti_sp (s : State) (t : Nat) : (s.reportReti t).sp = s.sp := rfl
@[simp] theorem reportReti_pc (s : State) (t : Nat) : (s.reportReti t).pc = s.pc := rfl
@[simp] theorem reportReti_ime (s : State) (t : Nat) : (s.reportReti t).ime = s.ime := rfl
@[simp] theorem reportReti_eiPending (s : State) (t : Nat) : (s.reportReti t).eiPending = s.eiPending := rfl
@[simp] theorem reportReti_haltBug (s : State) (t : Nat) : (s.reportReti t).haltBug = s.haltBug := rfl
@[simp] theorem reportReti_run (s : State) (t : Nat) : (s.reportReti t).run = s.run := rfl
@[simp] theorem reportReti_mem (s : State) (t : Nat) : (s.reportReti t).mem = s.mem := rfl
@[simp] theorem reportReti_cfg (s : State) (t : Nat) : (s.reportReti t).cfg = s.cfg := rfl
@[simp] theorem reportReti_inputs (s : State) (t : Nat) : (s.reportReti t).inputs = s.inputs := rfl
@[simp] theorem reportReti_input (s : State) (t : Nat) : (s.reportReti t).input = s.input := rfl
@[simp] theorem reportReti_out (s : State) (t : Nat) : (s.reportReti t).out = { cycles := cyclesIn s.cfg.cycleUnit t, accepted := false, reti := true, illegal := none } := rfl

/-! ### `reportIllegal` -/

@[simp] theorem reportIllegal_a (s : State) (t : Nat) (op : Byte) (x : Word) : (s.reportIllegal t op x).a = s.a := rfl
@[simp] theorem reportIllegal_f (s : State) (t : Nat) (op : Byte) (x : Word) : (s.reportIllegal t op x).f = s.f := rfl
@[simp] theorem reportIllegal_b (s : State) (t : Nat) (op : Byte) (x : Word) : (s.reportIllegal t op x).b = s.b := rfl
@[simp] theorem reportIllegal_c (s : State) (t : Nat) (op : Byte) (x : Word) : (s.reportIllegal t op x).c = s.c := rfl
@[simp] theorem reportIllegal_d (s : State) (t : Nat) (op : Byte) (x : Word) : (s.reportIllegal t op x).d = s.d := rfl
@[simp] theorem reportIllegal_e (s : State) (t : Nat) (op : Byte) (x : Word) : (s.reportIllegal t op x).e = s.e := rfl
@[simp] theorem reportIllegal_h (s : State) (t : Nat) (op : Byte) (x : Word) : (s.reportIllegal t op x).h = s.h := rfl
@[simp] theorem reportIllegal_l (s : State) (t : Nat) (op : Byte) (x : Word) : (s.reportIllegal t op x).l = s.l := rfl
@[simp] theorem reportIllegal_sp (s : State) (t : Nat) (op : Byte) (x : Word) : (s.reportIllegal t op x).sp = s.sp := rfl
@[simp] theorem reportIllegal_pc (s : State) (t : Nat) (op : Byte) (x : Word) : (s.reportIllegal t op x).pc = s.pc := rfl
@[simp] theorem reportIllegal_ime (s : State) (t : Nat) (op : Byte) (x : Word) : (s.reportIllegal t op x).ime = s.ime := rfl
@[simp] theorem reportIllegal_eiPending (s : State) (t : Nat) (op : Byte) (x : Word) : (s.reportIllegal t op x).eiPending = s.eiPending := rfl
@[simp] theorem reportIllegal_haltBug (s : State) (t : Nat) (op : Byte) (x : Word) : (s.reportIllegal t op x).haltBug = s.haltBug := rfl
@[simp] theorem reportIllegal_run (s : State) (t : Nat) (op : Byte) (x : Word) : (s.reportIllegal t op x).run = s.run := rfl
@[simp] theorem reportIllegal_mem (s : State) (t : Nat) (op : Byte) (x : Word) : (s.reportIllegal t op x).mem = s.mem := rfl
@[simp] theorem reportIllegal_cfg (s : State) (t : Nat) (op : Byte) (x : Word) : (s.reportIllegal t op x).cfg = s.cfg := rfl
@[simp] theorem reportIllegal_inputs (s : State) (t : Nat) (op : Byte) (x : Word) : (s.reportIllegal t op x).inputs = s.inputs := rfl
@[simp] theorem reportIllegal_input (s : State) (t : Nat) (op : Byte) (x : Word) : (s.reportIllegal t op x).input = s.input := rfl
@[simp] theorem reportIllegal_out (s : State) (t : Nat) (op : Byte) (x : Word) : (s.reportIllegal t op x).out = 
    { cycles := cyclesIn s.cfg.cycleUnit t, accepted := false, reti := false, illegal := some (op, x) } := rfl

/-! ### `fetch8` -/

@[simp] theorem fetch8_a (s : State) : (s.fetch8.2).a = s.a := rfl
@[simp] theorem fetch8_f (s : State) : (s.fetch8.2).f = s.f := rfl
@[simp] theorem fetch8_b (s : State) : (s.fetch8.2).b = s.b := rfl
@[simp] theorem fetch8_c (s : State) : (s.fetch8.2).c = s.c := rfl
@[simp] theorem fetch8_d (s : State) : (s.fetch8.2).d = s.d := rfl
@[simp] theorem fetch8_e (s : State) : (s.fetch8.2).e = s.e := rfl
@[simp] theorem fetch8_h (s : State) : (s.fetch8.2).h = s.h := rfl
@[simp] theorem fetch8_l (s : State) : (s.fetch8.2).l = s.l := rfl
@[simp] theorem fetch8_sp (s : State) : (s.fetch8.2).sp = s.sp := rfl
@[simp] theorem fetch8_pc (s : State) : (s.fetch8.2).pc = if s.haltBug then s.pc else s.pc + 1 := rfl
@[simp] theorem fetch8_ime (s : State) : (s.fetch8.2).ime = s.ime := rfl
@[simp] theorem fetch8_eiPending (s : State) : (s.fetch8.2).eiPending = s.eiPending := rfl
@[simp] theorem fetch8_haltBug (s : State) : (s.fetch8.2).haltBug = false := rfl
@[simp] theorem fetch8_run (s : State) : (s.fetch8.2).run = s.run := rfl
@[simp] theorem fetch8_mem (s : State) : (s.fetch8.2).mem = s.mem := rfl
@[simp] theorem fetch8_cfg (s : State) : (s.fetch8.2).cfg = s.cfg := rfl
@[simp] theorem fetch8_inputs (s : State) : (s.fetch8.2).inputs = s.inputs := rfl
@[simp] theorem fetch8_input (s : State) : (s.fetch8.2).input = s.input := rfl
@[simp] theorem fetch8_out (s : State) : (s.fetch8.2).out = s.out := rfl

/-! ### `passBytes` (PC and `halt_bug` are in Laws/Ops.lean) -/

@[simp] theorem passBytes_a (s : State) (n : Nat) : (s.passBytes n).a = s.a := by
  induction n generalizing s <;> simp [State.passBytes, *]
@[simp] theorem passBytes_f (s : State) (n : Nat) : (s.passBytes n).f = s.f := by
  induction n generalizing s <;> simp [State.passBytes, *]
@[simp] theorem passBytes_b (s : State) (n : Nat) : (s.passBytes n).b = s.b := by
  induction n generalizing s <;> simp [State.passBytes, *]
@[simp] theorem passBytes_c (s : State) (n : Nat) : (s.passBytes n).c = s.c := by
  induction n generalizing s <;> simp [State.passBytes, *]
@[simp] theorem passBytes_d (s : State) (n : Nat) : (s.passBytes n).d = s.d := by
  induction n generalizing s <;> simp [State.passBytes, *]
@[simp] theorem passBytes_e (s : State) (n : Nat) : (s.passBytes n).e = s.e := by
  induction n generalizing s <;> simp [State.passBytes, *]
@[simp] theorem passBytes_h (s : State) (n : Nat) : (s.passBytes n).h = s.h := by
  induction n generalizing s <;> simp [State.passBytes, *]
@[simp] theorem passBytes_l (s : State) (n : Nat) : (s.passBytes n).l = s.l := by
  induction n generalizing s <;> simp [State.passBytes, *]
@[simp] theorem passBytes_sp (s : State) (n : Nat) : (s.passBytes n).sp = s.sp := by
  induction n generalizing s <;> simp [State.passBytes, *]
@[simp] theorem passBytes_ime (s : State) (n : Nat) : (s.passBytes n).ime = s.ime := by
  induction n generalizing s <;> simp [State.passBytes, *]
@[simp] theorem passBytes_eiPending (s : State) (n : Nat) : (s.passBytes n).eiPending = s.eiPending := by
  induction n generalizing s <;> simp [State.passBytes, *]
@[simp] theorem passBytes_run (s : State) (n : Nat) : (s.passBytes n).run = s.run := by
  induction n generalizing s <;> simp [State.passBytes, *]
@[simp] theorem passBytes_mem (s : State) (n : Nat) : (s.passBytes n).mem = s.mem := by
  induction n generalizing s <;> simp [State.passBytes, *]
@[simp] theorem passBytes_cfg (s : State) (n : Nat) : (s.passBytes n).cfg = s.cfg := by
  induction n generalizing s <;> simp [State.passBytes, *]
@[simp] theorem passBytes_inputs (s : State) (n : Nat) : (s.passBytes n).inputs = s.inputs := by
  induction n generalizing s <;> simp [State.passBytes, *]
@[simp] theorem passBytes_input (s : State) (n : Nat) : (s.passBytes n).input = s.input := by
  induction n generalizing s <;> simp [State.passBytes, *]
@[simp] theorem passBytes_out (s : State) (n : Nat) : (s.passBytes n).out = s.out := by
  induction n generalizing s <;> simp [State.passBytes, *]

/-! ### `setReg8` -/

@[simp] theorem setReg8_f (s : State) (r : Reg8) (v : Byte) : (s.setReg8 r v).f = s.f := by cases r <;> rfl
@[simp] theorem setReg8_sp (s : State) (r : Reg8) (v : Byte) : (s.setReg8 r v).sp = s.sp := by cases r <;> rfl
@[simp] theorem setReg8_pc (s : State) (r : Reg8) (v : Byte) : (s.setReg8 r v).pc = s.pc := by cases r <;> rfl
@[simp] theorem setReg8_ime (s : State) (r : Reg8) (v : Byte) : (s.setReg8 r v).ime = s.ime := by cases r <;> rfl
@[simp] theorem setReg8_eiPending (s : State) (r : Reg8) (v : Byte) : (s.setReg8 r v).eiPending = s.eiPending := by cases r <;> rfl
@[simp] theorem setReg8_haltBug (s : State) (r : Reg8) (v : Byte) : (s.setReg8 r v).haltBug = s.haltBug := by cases r <;> rfl
@[simp] theorem setReg8_run (s : State) (r : Reg8) (v : Byte) : (s.setReg8 r v).run = s.run := by cases r <;> rfl
@[simp] theorem setReg8_mem (s : State) (r : Reg8) (v : Byte) : (s.setReg8 r v).mem = s.mem := by cases r <;> rfl
@[simp] theorem setReg8_cfg (s : State) (r : Reg8) (v : Byte) : (s.setReg8 r v).cfg = s.cfg := by cases r <;> rfl
@[simp] theorem setReg8_inputs (s : State) (r : Reg8) (v : Byte) : (s.setReg8 r v).inputs = s.inputs := by cases r <;> rfl
@[simp] theorem setReg8_input (s : State) (r : Reg8) (v : Byte) : (s.setReg8 r v).input = s.input := by cases r <;> rfl
@[simp] theorem setReg8_out (s : State) (r : Reg8) (v : Byte) : (s.setReg8 r v).out = s.out := by cases r <;> rfl

/-! ### `setReg16` -/

@[simp] theorem setReg16_a (s : State) (p : Reg16) (v : Word) : (s.setReg16 p v).a = s.a := by cases p <;> rfl
@[simp] theorem setReg16_f (s : State) (p : Reg16) (v : Word) : (s.setReg16 p v).f = s.f := by cases p <;> rfl
@[simp] theorem setReg16_pc (s : State) (p : Reg16) (v : Word) : (s.setReg16 p v).pc = s.pc := by cases p <;> rfl
@[simp] theorem setReg16_ime (s : State) (p : Reg16) (v : Word) : (s.setReg16 p v).ime = s.ime := by cases p <;> rfl
@[simp] theorem setReg16_eiPending (s : State) (p : Reg16) (v : Word) : (s.setReg16 p v).eiPending = s.eiPending := by cases p <;> rfl
@[simp] theorem setReg16_haltBug (s : State) (p : Reg16) (v : Word) : (s.setReg16 p v).haltBug = s.haltBug := by cases p <;> rfl
@[simp] theorem setReg16_run (s : State) (p : Reg16) (v : Word) : (s.setReg16 p v).run = s.run := by cases p <;> rfl
@[simp] theorem setReg16_mem (s : State) (p : Reg16) (v : Word) : (s.setReg16 p v).mem = s.mem := by cases p <;> rfl
@[simp] theorem setReg16_cfg (s : State) (p : Reg16) (v : Word) : (s.setReg16 p v).cfg = s.cfg := by cases p <;> rfl
@[simp] theorem setReg16_inputs (s : State) (p : Reg16) (v : Word) : (s.setReg16 p v).inputs = s.inputs := by cases p <;> rfl
@[simp] theorem setReg16_input (s : State) (p : Reg16) (v : Word) : (s.setReg16 p v).input = s.input := by cases p <;> rfl
@[simp] theorem setReg16_out (s : State) (p : Reg16) (v : Word) : (s.setReg16 p v).out = s.out := by cases p <;> rfl

/-! ### `setReg16S` -/

@[simp] theorem setReg16S_sp (s : State) (p : Reg16S) (v : Word) : (s.setReg16S p v).sp = s.sp := by cases p <;> rfl
@[simp] theorem setReg16S_pc (s : State) (p : Reg16S) (v : Word) : (s.setReg16S p v).pc = s.pc := by cases p <;> rfl
@[simp] theorem setReg16S_ime (s : State) (p : Reg16S) (v : Word) : (s.setReg16S p v).ime = s.ime := by cases p <;> rfl
@[simp] theorem setReg16S_eiPending (s : State) (p : Reg16S) (v : Word) : (s.setReg16S p v).eiPending = s.eiPending := by cases p <;> rfl
@[simp] theorem setReg16S_haltBug (s : State) (p : Reg16S) (v : Word) : (s.setReg16S p v).haltBug = s.haltBug := by cases p <;> rfl
@[simp] theorem setReg16S_run (s : State) (p : Reg16S) (v : Word) : (s.setReg16S p v).run = s.run := by cases p <;> rfl
@[simp] theorem setReg16S_mem (s : State) (p : Reg16S) (v : Word) : (s.setReg16S p v).mem = s.mem := by cases p <;> rfl
@[simp] theorem setReg16S_cfg (s : State) (p : Reg16S) (v : Word) : (s.setReg16S p v).cfg = s.cfg := by cases p <;> rfl
@[simp] theorem setReg16S_inputs (s : State) (p : Reg16S) (v : Word) : (s.setReg16S p v).inputs = s.inputs := by cases p <;> rfl
@[simp] theorem setReg16S_input (s : State) (p : Reg16S) (v : Word) : (s.setReg16S p v).input = s.input := by cases p <;> rfl
@[simp] theorem setReg16S_out (s : State) (p : Reg16S) (v : Word) : (s.setReg16S p v).out = s.out := by cases p <;> rfl

/-! ### `writeR8` -/

@[simp] theorem writeR8_f (s : State) (o : Operand8) (v : Byte) : (s.writeR8 o v).f = s.f := by
  cases o <;> simp [State.writeR8]
@[simp] theorem writeR8_sp (s : State) (o : Operand8) (v : Byte) : (s.writeR8 o v).sp = s.sp := by
  cases o <;> simp [State.writeR8]
@[simp] theorem writeR8_pc (s : State) (o : Operand8) (v : Byte) : (s.writeR8 o v).pc = s.pc := by
  cases o <;> simp [State.writeR8]
@[simp] theorem writeR8_ime (s : State) (o : Operand8) (v : Byte) : (s.writeR8 o v).ime = s.ime := by
  cases o <;> simp [State.writeR8]
@[simp] theorem writeR8_eiPending (s : State) (o : Operand8) (v : Byte) : (s.writeR8 o v).eiPending = s.eiPending := by
  cases o <;> simp [State.writeR8]
@[simp] theorem writeR8_haltBug (s : State) (o : Operand8) (v : Byte) : (s.writeR8 o v).haltBug = s.haltBug := by
  cases o <;> simp [State.writeR8]
@[simp] theorem writeR8_run (s : State) (o : Operand8) (v : Byte) : (s.writeR8 o v).run = s.run := by
  cases o <;> simp [State.writeR8]
@[simp] theorem writeR8_cfg (s : State) (o : Operand8) (v : Byte) : (s.writeR8 o v).cfg = s.cfg := by
  cases o <;> simp [State.writeR8]
@[simp] theorem writeR8_inputs (s : State) (o : Operand8) (v : Byte) : (s.writeR8 o v).inputs = s.inputs := by
  cases o <;> simp [State.writeR8]
@[simp] theorem writeR8_input (s : State) (o : Operand8) (v : Byte) : (s.writeR8 o v).input = s.input := by
  cases o <;> simp [State.writeR8]
@[simp] theorem writeR8_out (s : State) (o : Operand8) (v : Byte) : (s.writeR8 o v).out = s.out := by
  cases o <;> simp [State.writeR8]

/-! ### `indUpdate` -/

@[simp] theorem indUpdate_a (s : State) (i : IndAddr) : (s.indUpdate i).a = s.a := by cases i <;> rfl
@[simp] theorem indUpdate_f (s : State) (i : IndAddr) : (s.indUpdate i).f = s.f := by cases i <;> rfl
@[simp] theorem indUpdate_b (s : State) (i : IndAddr) : (s.indUpdate i).b = s.b := by cases i <;> rfl
@[simp] theorem indUpdate_c (s : State) (i : IndAddr) : (s.indUpdate i).c = s.c := by cases i <;> rfl
@[simp] theorem indUpdate_d (s : State) (i : IndAddr) : (s.indUpdate i).d = s.d := by cases i <;> rfl
@[simp] theorem indUpdate_e (s : State) (i : IndAddr) : (s.indUpdate i).e = s.e := by cases i <;> rfl
@[simp] theorem indUpdate_sp (s : State) (i : IndAddr) : (s.indUpdate i).sp = s.sp := by cases i <;> rfl
@[simp] theorem indUpdate_pc (s : State) (i : IndAddr) : (s.indUpdate i).pc = s.pc := by cases i <;> rfl
@[simp] theorem indUpdate_ime (s : State) (i : IndAddr) : (s.indUpdate i).ime = s.ime := by cases i <;> rfl
@[simp] theorem indUpdate_eiPending (s : State) (i : IndAddr) : (s.indUpdate i).eiPending = s.eiPending := by cases i <;> rfl
@[simp] theorem indUpdate_haltBug (s : State) (i : IndAddr) : (s.indUpdate i).haltBug = s.haltBug := by cases i <;> rfl
@[simp] theorem indUpdate_run (s : State) (i : IndAddr) : (s.indUpdate i).run = s.run := by cases i <;> rfl
@[simp] theorem indUpdate_mem (s : State) (i : IndAddr) : (s.indUpdate i).mem = s.mem := by cases i <;> rfl
@[simp] theorem indUpdate_cfg (s : State) (i : IndAddr) : (s.indUpdate i).cfg = s.cfg := by cases i <;> rfl
@[simp] theorem indUpdate_inputs (s : State) (i : IndAddr) : (s.indUpdate i).inputs = s.inputs := by cases i <;> rfl
@[simp] theorem indUpdate_input (s : State) (i : IndAddr) : (s.indUpdate i).input = s.input := by cases i <;> rfl
@[simp] theorem indUpdate_out (s : State) (i : IndAddr) : (s.indUpdate i).out = s.out := by cases i <;> rfl

/-! ### `takeInput` and `promoteEI` -/

@[simp] theorem takeInput_a (s : State) : (s.takeInput).a = s.a := rfl
@[simp] theorem takeInput_f (s : State) : (s.takeInput).f = s.f := rfl
@[simp] theorem takeInput_b (s : State) : (s.takeInput).b = s.b := rfl
@[simp] theorem takeInput_c (s : State) : (s.takeInput).c = s.c := rfl
@[simp] theorem takeInput_d (s : State) : (s.takeInput).d = s.d := rfl
@[simp] theorem takeInput_e (s : State) : (s.takeInput).e = s.e := rfl
@[simp] theorem takeInput_h (s : State) : (s.takeInput).h = s.h := rfl
@[simp] theorem takeInput_l (s : State) : (s.takeInput).l = s.l := rfl
@[simp] theorem takeInput_sp (s : State) : (s.takeInput).sp = s.sp := rfl
@[simp] theorem takeInput_pc (s : State) : (s.takeInput).pc = s.pc := rfl
@[simp] theorem takeInput_ime (s : State) : (s.takeInput).ime = s.ime := rfl
@[simp] theorem takeInput_eiPending (s : State) : (s.takeInput).eiPending = s.eiPending := rfl
@[simp] theorem takeInput_haltBug (s : State) : (s.takeInput).haltBug = s.haltBug := rfl
@[simp] theorem takeInput_run (s : State) : (s.takeInput).run = s.run := rfl
@[simp] theorem takeInput_mem (s : State) : (s.takeInput).mem = s.mem := rfl
@[simp] theorem takeInput_cfg (s : State) : (s.takeInput).cfg = s.cfg := rfl
@[simp] theorem takeInput_inputs (s : State) : (s.takeInput).inputs = s.inputs.tail := rfl
@[simp] theorem takeInput_input (s : State) : (s.takeInput).input = s.nextInput := rfl
@[simp] theorem takeInput_out (s : State) : (s.takeInput).out = s.out := rfl

/-! ### `promoteEI` -/

@[simp] theorem promoteEI_eq (s : State) :
    s.promoteEI = { s with ime := s.ime || s.eiPending, eiPending := false } := by
  obtain ⟨⟩ := s
  simp only [State.promoteEI]
  split <;> simp_all

/-! ### 8-bit registers after an update -/

@[simp] theorem reg8_setReg8_same (s : State) (r : Reg8) (v : Byte) : (s.setReg8 r v).reg8 r = v := by
  cases r <;> rfl

theorem reg8_setReg8 (s : State) (r r' : Reg8) (v : Byte) :
    (s.setReg8 r v).reg8 r' = if r' = r then v else s.reg8 r' := by
  cases r <;> cases r' <;> rfl

@[simp] theorem reg8_applyFlags (s : State) (fl : FlagRec) (r : Reg8) : (s.applyFlags fl).reg8 r = s.reg8 r := by
  cases r <;> rfl

@[simp] theorem reg8_write8 (s : State) (x : Word) (v : Byte) (r : Reg8) : (s.write8 x v).reg8 r = s.reg8 r := by
  cases r <;> rfl

@[simp] theorem reg8_passBytes (s : State) (n : Nat) (r : Reg8) : (s.passBytes n).reg8 r = s.reg8 r := by
  cases r <;> simp [State.reg8]

@[simp] theorem reg8_push16 (s : State) (v : Word) (r : Reg8) : (s.push16 v).reg8 r = s.reg8 r := by
  cases r <;> rfl

@[simp] theorem reg8_pop16 (s : State) (r : Reg8) : s.pop16.2.reg8 r = s.reg8 r := by
  cases r <;> rfl

@[simp] theorem reg8_report (s : State) (t : Nat) (r : Reg8) : (s.report t).reg8 r = s.reg8 r := by
  cases r <;> rfl

/-! ### Register-or-memory operands after the fetch -/

@[simp] theorem hl_passBytes (s : State) (n : Nat) : (s.passBytes n).hl = s.hl := by simp [State.hl]

@[simp] theorem bc_passBytes (s : State) (n : Nat) : (s.passBytes n).bc = s.bc := by simp [State.bc]

@[simp] theorem de_passBytes (s : State) (n : Nat) : (s.passBytes n).de = s.de := by simp [State.de]

@[simp] theorem af_passBytes (s : State) (n : Nat) : (s.passBytes n).af = s.af := by simp [State.af]

@[simp] theorem read8_passBytes (s : State) (n : Nat) (x : Word) : (s.passBytes n).read8 x = s.read8 x := by
  simp [State.read8]

@[simp] theorem readR8_passBytes (s : State) (n : Nat) (o : Operand8) : (s.passBytes n).readR8 o = s.readR8 o := by
  cases o <;> simp [State.readR8]

@[simp] theorem reg16_passBytes (s : State) (n : Nat) (p : Reg16) : (s.passBytes n).reg16 p = s.reg16 p := by
  cases p <;> simp [State.reg16]

@[simp] theorem reg16S_passBytes (s : State) (n : Nat) (p : Reg16S) : (s.passBytes n).reg16S p = s.reg16S p := by
  cases p <;> simp [State.reg16S]

@[simp] theorem flag_passBytes (s : State) (n : Nat) (k : FlagKind) : (s.passBytes n).flag k = s.flag k := by
  simp [State.flag]

@[simp] theorem flagZ_passBytes (s : State) (n : Nat) : (s.passBytes n).flagZ = s.flagZ := by simp [State.flagZ]

@[simp] theorem flagN_passBytes (s : State) (n : Nat) : (s.passBytes n).flagN = s.flagN := by simp [State.flagN]

@[simp] theorem flagH_passBytes (s : State) (n : Nat) : (s.passBytes n).flagH = s.flagH := by simp [State.flagH]

@[simp] theorem flagC_passBytes (s : State) (n : Nat) : (s.passBytes n).flagC = s.flagC := by simp [State.flagC]

@[simp] theorem cond_passBytes (s : State) (n : Nat) (cc : Cond) : (s.passBytes n).cond cc = s.cond cc := by
  cases cc <;> simp [State.cond, State.flagZ, State.flagC]

end Sys2Proof.Laws
end

