-- ==== Sys2Proof/Laws/Exec.lean ====
section
/-! SUPPORT. The meaning of each family's instructions is its shared form: no later proof unfolds `exec`. -/

namespace Sys2Proof.Laws

open Sys2Proof.Machine

theorem exec_ldRegReg (dst src : Reg8) (s : State) : exec (Family.ldRegReg dst src) s = ldRegReg dst src s := by
  cases dst <;> cases src <;> rfl

theorem exec_ldRegMem (dst : Reg8) (s : State) : exec (Family.ldRegMem dst) s = ldRegMem dst s := by
  cases dst <;> rfl

theorem exec_ldMemReg (src : Reg8) (s : State) : exec (Family.ldMemReg src) s = ldMemReg src s := by
  cases src <;> rfl

theorem exec_ldImm (o : Operand8) (n : Byte) (s : State) : exec (Family.ldImm o n) s = ldImm o n s := by
  rcases o with ⟨⟨⟩⟩ | _ <;> rfl

theorem exec_ldAInd (i : IndAddr) (s : State) : exec (Family.ldAInd i) s = ldAInd i s := by
  cases i <;> rfl

theorem exec_ldIndA (i : IndAddr) (s : State) : exec (Family.ldIndA i) s = ldIndA i s := by
  cases i <;> rfl

theorem exec_ldReg16Imm (p : Reg16) (v : Word) (s : State) : exec (Family.ldReg16Imm p v) s = ldReg16Imm p v s := by
  cases p <;> rfl

theorem exec_push (p : Reg16S) (s : State) : exec (Family.push p) s = pushPair p s := by
  cases p <;> rfl

theorem exec_pop (p : Reg16S) (s : State) : exec (Family.pop p) s = popPair p s := by
  cases p <;> rfl

theorem exec_alu (op : AluOp) (o : Operand8) (s : State) : exec (Family.alu op o) s = aluOperand op o s := by
  cases op <;> rcases o with ⟨⟨⟩⟩ | _ <;> rfl

theorem exec_aluImm (op : AluOp) (n : Byte) (s : State) : exec (Family.aluImm op n) s = aluImm op n s := by
  cases op <;> rfl

theorem exec_inc8 (o : Operand8) (s : State) : exec (Family.inc8 o) s = incOperand o s := by
  rcases o with ⟨⟨⟩⟩ | _ <;> rfl

theorem exec_dec8 (o : Operand8) (s : State) : exec (Family.dec8 o) s = decOperand o s := by
  rcases o with ⟨⟨⟩⟩ | _ <;> rfl

theorem exec_addHL (p : Reg16) (s : State) : exec (Family.addHL p) s = addHLPair p s := by
  cases p <;> rfl

theorem exec_inc16 (p : Reg16) (s : State) : exec (Family.inc16 p) s = incPair p s := by
  cases p <;> rfl

theorem exec_dec16 (p : Reg16) (s : State) : exec (Family.dec16 p) s = decPair p s := by
  cases p <;> rfl

theorem exec_rot (op : RotOp) (o : Operand8) (s : State) : exec (Family.rot op o) s = cbRotate op o s := by
  cases op <;> rcases o with ⟨⟨⟩⟩ | _ <;> rfl

theorem exec_bit (b : Fin 8) (o : Operand8) (s : State) : exec (Family.bit b o) s = cbBit b o s := by
  fin_cases b <;> rcases o with ⟨⟨⟩⟩ | _ <;> rfl

theorem exec_res (b : Fin 8) (o : Operand8) (s : State) : exec (Family.res b o) s = cbRes b o s := by
  fin_cases b <;> rcases o with ⟨⟨⟩⟩ | _ <;> rfl

theorem exec_set (b : Fin 8) (o : Operand8) (s : State) : exec (Family.set b o) s = cbSet b o s := by
  fin_cases b <;> rcases o with ⟨⟨⟩⟩ | _ <;> rfl

theorem exec_jpCond (cc : Cond) (a : Word) (s : State) : exec (Family.jpCond cc a) s = jumpIf cc a s := by
  cases cc <;> rfl

theorem exec_jrCond (cc : Cond) (e : Byte) (s : State) : exec (Family.jrCond cc e) s = jumpRelIf cc e s := by
  cases cc <;> rfl

theorem exec_callCond (cc : Cond) (a : Word) (s : State) : exec (Family.callCond cc a) s = callIf cc a s := by
  cases cc <;> rfl

theorem exec_retCond (cc : Cond) (s : State) : exec (Family.retCond cc) s = returnIf cc s := by
  cases cc <;> rfl

theorem exec_rst (t : Fin 8) (s : State) : exec (Family.rst t) s = restart t s := by
  fin_cases t <;> rfl

theorem exec_undef (u : UndefOp) (s : State) : exec (Family.undef u) s = undefinedOpcode u s := by
  cases u <;> rfl

/-- The bare prefix runs the CB row of its byte (47_system.md R395). -/
theorem exec_prefix_CB (xx : Byte) (s : State) : exec (.prefix_CB xx) s = exec (decodeCB xx) s := by
  show cbRow xx s = _
  rcases h : (xField xx).toNat with _ | _ | _ | n <;> simp only [cbRow, decodeCB, h]
  · exact (exec_rot ..).symm
  · exact (exec_bit ..).symm
  · exact (exec_res ..).symm
  · exact (exec_set ..).symm

/-! ### The conditional forms as one next state -/

theorem jumpIf_eq (cc : Cond) (a : Word) (s : State) : jumpIf cc a s = .next
    (if s.cond cc then ({ s.passBytes 3 with pc := a } : State).report 16 else (s.passBytes 3).report 12) := by
  simp only [jumpIf, cond_passBytes]
  split <;> rfl

theorem jumpRelIf_eq (cc : Cond) (e : Byte) (s : State) : jumpRelIf cc e s = .next
    (if s.cond cc then ({ s.passBytes 2 with pc := (s.passBytes 2).pc + sext16 e } : State).report 12
      else (s.passBytes 2).report 8) := by
  simp only [jumpRelIf, cond_passBytes]
  split <;> rfl

theorem callIf_eq (cc : Cond) (a : Word) (s : State) : callIf cc a s = .next
    (if s.cond cc then ({ (s.passBytes 3).push16 (s.passBytes 3).pc with pc := a } : State).report 24
      else (s.passBytes 3).report 12) := by
  simp only [callIf, cond_passBytes]
  split <;> rfl

theorem returnIf_eq (cc : Cond) (s : State) : returnIf cc s = .next
    (if s.cond cc then ({ (s.passBytes 1).pop16.2 with pc := (s.passBytes 1).pop16.1 } : State).report 20
      else (s.passBytes 1).report 8) := by
  simp only [returnIf, cond_passBytes]
  split <;> rfl

theorem haltCore_eq (s : State) : haltCore s = .next
    (if !s.ime && s.input.irqPending then ({ s.passBytes 1 with haltBug := true } : State).report 4
      else ({ s.passBytes 1 with run := .halted } : State).report 4) := by
  simp only [haltCore, passBytes_ime, passBytes_input]
  split <;> rfl

theorem undefinedOpcode_eq (u : UndefOp) (s : State) : undefinedOpcode u s = .next
    (if s.cfg.illegalPolicy = .lock then s.lockAtOpcode u.byte else s.skipOpcode u.byte) := by
  unfold undefinedOpcode
  split <;> simp_all

/-- Every instruction answers a next state (60_exceptions.md R420; 47_system.md R402). -/
theorem exec_answers (i : Instr) (s : State) : ∃ t, exec i s = .next t := by
  have hcb (xx : Byte) : ∃ t, cbRow xx s = .next t := by
    unfold cbRow
    split <;> exact ⟨_, rfl⟩
  revert i
  apply instr_families (P := fun i => ∃ t, exec i s = .next t)
  case prefix_CB => exact hcb
  case undef => intro u; exact ⟨_, (exec_undef u s).trans (undefinedOpcode_eq u s)⟩
  case jpCond => intro cc a; exact ⟨_, (exec_jpCond cc a s).trans (jumpIf_eq cc a s)⟩
  case jrCond => intro cc e; exact ⟨_, (exec_jrCond cc e s).trans (jumpRelIf_eq cc e s)⟩
  case callCond => intro cc a; exact ⟨_, (exec_callCond cc a s).trans (callIf_eq cc a s)⟩
  case retCond => intro cc; exact ⟨_, (exec_retCond cc s).trans (returnIf_eq cc s)⟩
  case halt => exact ⟨_, haltCore_eq s⟩
  case ldRegReg => intro dst src; exact ⟨_, exec_ldRegReg dst src s⟩
  case ldRegMem => intro dst; exact ⟨_, exec_ldRegMem dst s⟩
  case ldMemReg => intro r; exact ⟨_, exec_ldMemReg r s⟩
  case ldImm => intro o n; exact ⟨_, exec_ldImm o n s⟩
  case ldAInd => intro i; exact ⟨_, exec_ldAInd i s⟩
  case ldIndA => intro i; exact ⟨_, exec_ldIndA i s⟩
  case ldReg16Imm => intro p v; exact ⟨_, exec_ldReg16Imm p v s⟩
  case push => intro p; exact ⟨_, exec_push p s⟩
  case pop => intro p; exact ⟨_, exec_pop p s⟩
  case alu => intro op o; exact ⟨_, exec_alu op o s⟩
  case aluImm => intro op n; exact ⟨_, exec_aluImm op n s⟩
  case inc8 => intro o; exact ⟨_, exec_inc8 o s⟩
  case dec8 => intro o; exact ⟨_, exec_dec8 o s⟩
  case addHL => intro p; exact ⟨_, exec_addHL p s⟩
  case inc16 => intro p; exact ⟨_, exec_inc16 p s⟩
  case dec16 => intro p; exact ⟨_, exec_dec16 p s⟩
  case rot => intro op o; exact ⟨_, exec_rot op o s⟩
  case bit => intro b o; exact ⟨_, exec_bit b o s⟩
  case res => intro b o; exact ⟨_, exec_res b o s⟩
  case set => intro b o; exact ⟨_, exec_set b o s⟩
  case rst => intro r; exact ⟨_, exec_rst r s⟩
  all_goals first | exact ⟨_, rfl⟩ | exact fun _ => ⟨_, rfl⟩

/-- What an instruction can do, by family: to prove `Q` of every instruction, the state it starts in and the next
state, prove it of each family's next state. The bare prefix does what its CB row does. -/
theorem exec_cases {Q : Instr → State → State → Prop}
    (ldRegReg : ∀ (dst src : Reg8) (s : State), Q (Family.ldRegReg dst src) s
      (((s.passBytes 1).setReg8 dst ((s.passBytes 1).reg8 src)).report 4))
    (ldRegMem : ∀ (dst : Reg8) (s : State), Q (Family.ldRegMem dst) s
      (((s.passBytes 1).setReg8 dst ((s.passBytes 1).read8 (s.passBytes 1).hl)).report 8))
    (ldMemReg : ∀ (src : Reg8) (s : State), Q (Family.ldMemReg src) s
      (((s.passBytes 1).write8 (s.passBytes 1).hl ((s.passBytes 1).reg8 src)).report 8))
    (ldImm : ∀ (o : Operand8) (n : Byte) (s : State), Q (Family.ldImm o n) s
      (((s.passBytes 2).writeR8 o n).report (cyclesOn o 8 12)))
    (ldAInd : ∀ (x : IndAddr) (s : State), Q (Family.ldAInd x) s
      ((({ s.passBytes 1 with a := (s.passBytes 1).read8 ((s.passBytes 1).indAddr x) } : State).indUpdate x).report 8))
    (ldIndA : ∀ (x : IndAddr) (s : State), Q (Family.ldIndA x) s
      ((((s.passBytes 1).write8 ((s.passBytes 1).indAddr x) (s.passBytes 1).a).indUpdate x).report 8))
    (ldReg16Imm : ∀ (p : Reg16) (v : Word) (s : State), Q (Family.ldReg16Imm p v) s
      (((s.passBytes 3).setReg16 p v).report 12))
    (push : ∀ (p : Reg16S) (s : State), Q (Family.push p) s
      (((s.passBytes 1).push16 ((s.passBytes 1).reg16S p)).report 16))
    (pop : ∀ (p : Reg16S) (s : State), Q (Family.pop p) s
      (((s.passBytes 1).pop16.2.setReg16S p (s.passBytes 1).pop16.1).report 12))
    (alu : ∀ (op : AluOp) (o : Operand8) (s : State), Q (Family.alu op o) s
      ((aluOn op ((s.passBytes 1).readR8 o) (s.passBytes 1)).report (cyclesOn o 4 8)))
    (aluImm : ∀ (op : AluOp) (n : Byte) (s : State), Q (Family.aluImm op n) s
      ((aluOn op n (s.passBytes 2)).report 8))
    (inc8 : ∀ (o : Operand8) (s : State), Q (Family.inc8 o) s
      ((((s.passBytes 1).writeR8 o (inc8 ((s.passBytes 1).readR8 o)).1).applyFlags
      (inc8 ((s.passBytes 1).readR8 o)).2).report (cyclesOn o 4 12)))
    (dec8 : ∀ (o : Operand8) (s : State), Q (Family.dec8 o) s
      ((((s.passBytes 1).writeR8 o (dec8 ((s.passBytes 1).readR8 o)).1).applyFlags
      (dec8 ((s.passBytes 1).readR8 o)).2).report (cyclesOn o 4 12)))
    (addHL : ∀ (p : Reg16) (s : State), Q (Family.addHL p) s
      ((((s.passBytes 1).setHL (add16 (s.passBytes 1).hl ((s.passBytes 1).reg16 p)).1).applyFlags
      (add16 (s.passBytes 1).hl ((s.passBytes 1).reg16 p)).2).report 8))
    (inc16 : ∀ (p : Reg16) (s : State), Q (Family.inc16 p) s
      (((s.passBytes 1).setReg16 p ((s.passBytes 1).reg16 p + 1)).report 8))
    (dec16 : ∀ (p : Reg16) (s : State), Q (Family.dec16 p) s
      (((s.passBytes 1).setReg16 p ((s.passBytes 1).reg16 p - 1)).report 8))
    (rot : ∀ (op : RotOp) (o : Operand8) (s : State), Q (Family.rot op o) s
      ((((s.passBytes 2).writeR8 o (rotOn op ((s.passBytes 2).readR8 o) (s.passBytes 2).flagC).1).applyFlags
      (rotOn op ((s.passBytes 2).readR8 o) (s.passBytes 2).flagC).2).report (cyclesOn o 8 16)))
    (bit : ∀ (b : Fin 8) (o : Operand8) (s : State), Q (Family.bit b o) s
      (((s.passBytes 2).applyFlags (bitFlags b.val ((s.passBytes 2).readR8 o))).report (cyclesOn o 8 12)))
    (res : ∀ (b : Fin 8) (o : Operand8) (s : State), Q (Family.res b o) s
      (((s.passBytes 2).writeR8 o ((s.passBytes 2).readR8 o &&& ~~~(1#8 <<< b.val))).report (cyclesOn o 8 16)))
    (set : ∀ (b : Fin 8) (o : Operand8) (s : State), Q (Family.set b o) s
      (((s.passBytes 2).writeR8 o ((s.passBytes 2).readR8 o ||| (1#8 <<< b.val))).report (cyclesOn o 8 16)))
    (jpCond : ∀ (cc : Cond) (a : Word) (s : State), Q (Family.jpCond cc a) s
      (if s.cond cc then ({ s.passBytes 3 with pc := a } : State).report 16 else (s.passBytes 3).report 12))
    (jrCond : ∀ (cc : Cond) (e : Byte) (s : State), Q (Family.jrCond cc e) s
      (if s.cond cc then ({ s.passBytes 2 with pc := (s.passBytes 2).pc + sext16 e } : State).report 12
      else (s.passBytes 2).report 8))
    (callCond : ∀ (cc : Cond) (a : Word) (s : State), Q (Family.callCond cc a) s
      (if s.cond cc then ({ (s.passBytes 3).push16 (s.passBytes 3).pc with pc := a } : State).report 24
      else (s.passBytes 3).report 12))
    (retCond : ∀ (cc : Cond) (s : State), Q (Family.retCond cc) s
      (if s.cond cc then ({ (s.passBytes 1).pop16.2 with pc := (s.passBytes 1).pop16.1 } : State).report 20
      else (s.passBytes 1).report 8))
    (rst : ∀ (t : Fin 8) (s : State), Q (Family.rst t) s
      (({ (s.passBytes 1).push16 (s.passBytes 1).pc with pc := rstTarget t } : State).report 16))
    (undef : ∀ (u : UndefOp) (s : State), Q (Family.undef u) s
      (if s.cfg.illegalPolicy = .lock then s.lockAtOpcode u.byte else s.skipOpcode u.byte))
    (ld_ma16_SP : ∀ (a : Word) (s : State), Q (.ld_ma16_SP a) s
      (((s.passBytes 3).write16 a (s.passBytes 3).sp).report 20))
    (stop : ∀ (x : Byte) (s : State), Q (.stop x) s
      (({ s.passBytes 2 with run := .stopped } : State).report 4))
    (jr_e8 : ∀ (e : Byte) (s : State), Q (.jr_e8 e) s
      (({ s.passBytes 2 with pc := (s.passBytes 2).pc + sext16 e } : State).report 12))
    (jp_a16 : ∀ (a : Word) (s : State), Q (.jp_a16 a) s
      (({ s.passBytes 3 with pc := a } : State).report 16))
    (call_a16 : ∀ (a : Word) (s : State), Q (.call_a16 a) s
      (({ (s.passBytes 3).push16 (s.passBytes 3).pc with pc := a } : State).report 24))
    (ldh_ma8_A : ∀ (n : Byte) (s : State), Q (.ldh_ma8_A n) s
      (((s.passBytes 2).write8 (highPage n) (s.passBytes 2).a).report 12))
    (add_SP_e8 : ∀ (e : Byte) (s : State), Q (.add_SP_e8 e) s
      ((({ s.passBytes 2 with sp := (addsp (s.passBytes 2).sp e).1 } : State).applyFlags
      (addsp (s.passBytes 2).sp e).2).report 16))
    (ld_ma16_A : ∀ (a : Word) (s : State), Q (.ld_ma16_A a) s
      (((s.passBytes 3).write8 a (s.passBytes 3).a).report 16))
    (ldh_A_ma8 : ∀ (n : Byte) (s : State), Q (.ldh_A_ma8 n) s
      (({ s.passBytes 2 with a := (s.passBytes 2).read8 (highPage n) } : State).report 12))
    (ld_HL_SPe8 : ∀ (e : Byte) (s : State), Q (.ld_HL_SPe8 e) s
      ((((s.passBytes 2).setHL (addsp (s.passBytes 2).sp e).1).applyFlags (addsp (s.passBytes 2).sp e).2).report 12))
    (ld_A_ma16 : ∀ (a : Word) (s : State), Q (.ld_A_ma16 a) s
      (({ s.passBytes 3 with a := (s.passBytes 3).read8 a } : State).report 16))
    (nop : ∀ (s : State), Q .nop s
      ((s.passBytes 1).report 4))
    (rlca : ∀ (s : State), Q .rlca s
      (((s.passBytes 1).putA (forceZClear (rotOn .rlc s.a s.flagC))).report 4))
    (rrca : ∀ (s : State), Q .rrca s
      (((s.passBytes 1).putA (forceZClear (rotOn .rrc s.a s.flagC))).report 4))
    (rla : ∀ (s : State), Q .rla s
      (((s.passBytes 1).putA (forceZClear (rotOn .rl s.a s.flagC))).report 4))
    (rra : ∀ (s : State), Q .rra s
      (((s.passBytes 1).putA (forceZClear (rotOn .rr s.a s.flagC))).report 4))
    (daa : ∀ (s : State), Q .daa s
      (((s.passBytes 1).putA (daa (s.passBytes 1).a (s.passBytes 1).flagN (s.passBytes 1).flagH (s.passBytes 1).flagC)).report 4))
    (cpl : ∀ (s : State), Q .cpl s
      (((s.passBytes 1).putA (cplOf (s.passBytes 1).a)).report 4))
    (scf : ∀ (s : State), Q .scf s
      (((s.passBytes 1).applyFlags scfRec).report 4))
    (ccf : ∀ (s : State), Q .ccf s
      (((s.passBytes 1).applyFlags (ccfRec (s.passBytes 1).flagC)).report 4))
    (halt : ∀ (s : State), Q .halt s
      (if !s.ime && s.input.irqPending then ({ s.passBytes 1 with haltBug := true } : State).report 4
      else ({ s.passBytes 1 with run := .halted } : State).report 4))
    (ret : ∀ (s : State), Q .ret s
      (({ (s.passBytes 1).pop16.2 with pc := (s.passBytes 1).pop16.1 } : State).report 16))
    (reti : ∀ (s : State), Q .reti s
      ((s.passBytes 1).returnFromInterrupt))
    (ldh_mC_A : ∀ (s : State), Q .ldh_mC_A s
      (((s.passBytes 1).write8 (highPage s.c) (s.passBytes 1).a).report 8))
    (jp_HL : ∀ (s : State), Q .jp_HL s
      (({ s.passBytes 1 with pc := (s.passBytes 1).hl } : State).report 4))
    (ldh_A_mC : ∀ (s : State), Q .ldh_A_mC s
      (({ s.passBytes 1 with a := (s.passBytes 1).read8 (highPage s.c) } : State).report 8))
    (di : ∀ (s : State), Q .di s
      (({ s.passBytes 1 with ime := false, eiPending := false } : State).report 4))
    (ld_SP_HL : ∀ (s : State), Q .ld_SP_HL s
      (({ s.passBytes 1 with sp := (s.passBytes 1).hl } : State).report 8))
    (ei : ∀ (s : State), Q .ei s
      (({ s.passBytes 1 with eiPending := true } : State).report 4))
    (prefix_CB : ∀ (xx : Byte) (s t : State), exec (decodeCB xx) s = .next t → Q (decodeCB xx) s t →
      Q (.prefix_CB xx) s t)
    {i : Instr} {s t : State} (h : exec i s = .next t) : Q i s t := by
  have one {i : Instr} {s t u : State} (h : exec i s = .next t) (e : exec i s = .next u) (q : Q i s u) : Q i s t :=
    Host.Outcome.next.inj (h.symm.trans e) ▸ q
  have cb (xx : Byte) (h : exec (decodeCB xx) s = .next t) : Q (decodeCB xx) s t := by
    revert h
    rcases e : (xField xx).toNat with _ | _ | _ | n <;> simp only [decodeCB, e] <;> intro h
    · exact one h (exec_rot ..) (rot ..)
    · exact one h (exec_bit ..) (bit ..)
    · exact one h (exec_res ..) (res ..)
    · exact one h (exec_set ..) (set ..)
  revert h
  apply instr_families (P := fun i => exec i s = .next t → Q i s t)
  case ldRegReg => intro dst src h; exact one h (exec_ldRegReg dst src s) (ldRegReg dst src s)
  case ldRegMem => intro dst h; exact one h (exec_ldRegMem dst s) (ldRegMem dst s)
  case ldMemReg => intro src h; exact one h (exec_ldMemReg src s) (ldMemReg src s)
  case ldImm => intro o n h; exact one h (exec_ldImm o n s) (ldImm o n s)
  case ldAInd => intro x h; exact one h (exec_ldAInd x s) (ldAInd x s)
  case ldIndA => intro x h; exact one h (exec_ldIndA x s) (ldIndA x s)
  case ldReg16Imm => intro p v h; exact one h (exec_ldReg16Imm p v s) (ldReg16Imm p v s)
  case push => intro p h; exact one h (exec_push p s) (push p s)
  case pop => intro p h; exact one h (exec_pop p s) (pop p s)
  case alu => intro op o h; exact one h (exec_alu op o s) (alu op o s)
  case aluImm => intro op n h; exact one h (exec_aluImm op n s) (aluImm op n s)
  case inc8 => intro o h; exact one h (exec_inc8 o s) (inc8 o s)
  case dec8 => intro o h; exact one h (exec_dec8 o s) (dec8 o s)
  case addHL => intro p h; exact one h (exec_addHL p s) (addHL p s)
  case inc16 => intro p h; exact one h (exec_inc16 p s) (inc16 p s)
  case dec16 => intro p h; exact one h (exec_dec16 p s) (dec16 p s)
  case rot => intro op o h; exact one h (exec_rot op o s) (rot op o s)
  case bit => intro b o h; exact one h (exec_bit b o s) (bit b o s)
  case res => intro b o h; exact one h (exec_res b o s) (res b o s)
  case set => intro b o h; exact one h (exec_set b o s) (set b o s)
  case jpCond => intro cc a h; exact one h ((exec_jpCond cc a s).trans (jumpIf_eq cc a s)) (jpCond cc a s)
  case jrCond => intro cc e h; exact one h ((exec_jrCond cc e s).trans (jumpRelIf_eq cc e s)) (jrCond cc e s)
  case callCond => intro cc a h; exact one h ((exec_callCond cc a s).trans (callIf_eq cc a s)) (callCond cc a s)
  case retCond => intro cc h; exact one h ((exec_retCond cc s).trans (returnIf_eq cc s)) (retCond cc s)
  case rst => intro t h; exact one h (exec_rst t s) (rst t s)
  case undef => intro u h; exact one h ((exec_undef u s).trans (undefinedOpcode_eq u s)) (undef u s)
  case ld_ma16_SP => intro a h; exact one h rfl (ld_ma16_SP a s)
  case stop => intro x h; exact one h rfl (stop x s)
  case jr_e8 => intro e h; exact one h rfl (jr_e8 e s)
  case jp_a16 => intro a h; exact one h rfl (jp_a16 a s)
  case call_a16 => intro a h; exact one h rfl (call_a16 a s)
  case ldh_ma8_A => intro n h; exact one h rfl (ldh_ma8_A n s)
  case add_SP_e8 => intro e h; exact one h rfl (add_SP_e8 e s)
  case ld_ma16_A => intro a h; exact one h rfl (ld_ma16_A a s)
  case ldh_A_ma8 => intro n h; exact one h rfl (ldh_A_ma8 n s)
  case ld_HL_SPe8 => intro e h; exact one h rfl (ld_HL_SPe8 e s)
  case ld_A_ma16 => intro a h; exact one h rfl (ld_A_ma16 a s)
  case nop => intro h; exact one h rfl (nop s)
  case rlca => intro h; exact one h rfl (rlca s)
  case rrca => intro h; exact one h rfl (rrca s)
  case rla => intro h; exact one h rfl (rla s)
  case rra => intro h; exact one h rfl (rra s)
  case daa => intro h; exact one h rfl (daa s)
  case cpl => intro h; exact one h rfl (cpl s)
  case scf => intro h; exact one h rfl (scf s)
  case ccf => intro h; exact one h rfl (ccf s)
  case halt => intro h; exact one h (haltCore_eq s) (halt s)
  case ret => intro h; exact one h rfl (ret s)
  case reti => intro h; exact one h rfl (reti s)
  case ldh_mC_A => intro h; exact one h rfl (ldh_mC_A s)
  case jp_HL => intro h; exact one h rfl (jp_HL s)
  case ldh_A_mC => intro h; exact one h rfl (ldh_A_mC s)
  case di => intro h; exact one h rfl (di s)
  case ld_SP_HL => intro h; exact one h rfl (ld_SP_HL s)
  case ei => intro h; exact one h rfl (ei s)
  case prefix_CB => intro xx h; exact prefix_CB xx s t (exec_prefix_CB xx s ▸ h) (cb xx (exec_prefix_CB xx s ▸ h))

end Sys2Proof.Laws
end

