-- ==== Sys2Proof/Laws/Memory.lean ====
section
/-! SUPPORT. The laws of memory: a cell reads what was last stored in it, every other cell reads as before, and every
operation keeps the canonical form. -/

namespace Sys2Proof.Laws

open Sys2Proof.Machine

/-! ### Reading a cell -/

theorem get_without (m : Memory) (k k' : Nat) :
    (m.without k).get k' = if k' = k then Memory.unlisted else m.get k' := by
  induction m with
  | nil => simp [Memory.without, Memory.get]
  | cons x rest ih =>
    simp only [Memory.without]
    split
    · rw [ih]; simp only [Memory.get]; split <;> simp_all
    · simp only [Memory.get, ih]
      split <;> split <;> simp_all

theorem ne_of_mem_without {m : Memory} {k : Nat} {x : Host.Cell} (h : x ∈ m.without k) : k ≠ x.1 := by
  induction m with
  | nil => simp [Memory.without] at h
  | cons y rest ih =>
    simp only [Memory.without] at h
    split at h
    · exact ih h
    · next hne =>
      rcases List.mem_cons.1 h with rfl | hm
      · exact hne
      · exact ih hm

theorem get_place {m : Memory} {k : Nat} (h : ∀ x ∈ m, k ≠ x.1) (v : Byte) (k' : Nat) :
    (m.place k v).get k' = if k' = k then v else m.get k' := by
  induction m with
  | nil => simp [Memory.place, Memory.get]
  | cons x rest ih =>
    have hx : k ≠ x.1 := h x (by simp)
    have ihr := ih fun y hy => h y (by simp [hy])
    simp only [Memory.place]
    split
    · simp only [Memory.get]
    · simp only [Memory.get, ihr]
      split <;> split <;> simp_all

/-- Read after write, over cells. -/
theorem get_set (m : Memory) (k k' : Nat) (v : Byte) : (m.set k v).get k' = if k' = k then v else m.get k' := by
  unfold Memory.set
  split
  · next h => rw [get_without, h]
  · rw [get_place (fun _ => ne_of_mem_without), get_without]
    split <;> rfl

/-! ### The canonical form -/

theorem wfFrom_mono {m : Memory} {a b : Nat} (hab : a ≤ b) (h : m.wfFrom b = true) : m.wfFrom a = true := by
  cases m with
  | nil => rfl
  | cons x rest =>
    simp only [Memory.wfFrom, Bool.and_eq_true, decide_eq_true_eq] at h ⊢
    exact ⟨⟨⟨by omega, h.1.1.2⟩, h.1.2⟩, h.2⟩

theorem wfFrom_without {m : Memory} {a : Nat} (k : Nat) (h : m.wfFrom a = true) : (m.without k).wfFrom a = true := by
  induction m generalizing a with
  | nil => rfl
  | cons x rest ih =>
    simp only [Memory.wfFrom, Bool.and_eq_true, decide_eq_true_eq] at h
    simp only [Memory.without]
    split
    · exact ih (wfFrom_mono (by omega) h.2)
    · simp only [Memory.wfFrom, Bool.and_eq_true, decide_eq_true_eq]
      exact ⟨h.1, ih h.2⟩

theorem wfFrom_place {m : Memory} {a k : Nat} {v : Byte} (h : m.wfFrom a = true) (hm : ∀ x ∈ m, k ≠ x.1) (hk : a ≤ k)
    (hr : Memory.reachable k = true) (hv : v ≠ Memory.unlisted) : (m.place k v).wfFrom a = true := by
  induction m generalizing a with
  | nil => simp [Memory.place, Memory.wfFrom, hk, hr, hv]
  | cons x rest ih =>
    have hx : k ≠ x.1 := hm x (by simp)
    simp only [Memory.wfFrom, Bool.and_eq_true, decide_eq_true_eq] at h
    simp only [Memory.place]
    split
    · simp only [Memory.wfFrom, Bool.and_eq_true, decide_eq_true_eq]
      exact ⟨⟨⟨hk, hr⟩, hv⟩, ⟨⟨by omega, h.1.1.2⟩, h.1.2⟩, h.2⟩
    · simp only [Memory.wfFrom, Bool.and_eq_true, decide_eq_true_eq]
      exact ⟨h.1, ih h.2 (fun y hy => hm y (by simp [hy])) (by omega)⟩

theorem wf_set {m : Memory} (h : m.wf = true) {k : Nat} (hk : Memory.reachable k = true) (v : Byte) :
    (m.set k v).wf = true := by
  unfold Memory.set
  split
  · exact wfFrom_without k h
  · next hv => exact wfFrom_place (wfFrom_without k h) (fun _ => ne_of_mem_without) (Nat.zero_le k) hk hv

/-- `map` on numbers (R72). -/
theorem mapAddr_toNat (a : Word) :
    (mapAddr a).toNat = if 0xE000 ≤ a.toNat ∧ a.toNat ≤ 0xFDFF then a.toNat - 0x2000 else a.toNat := by
  have ha := a.isLt
  simp only [mapAddr, inEcho, Bool.and_eq_true, decide_eq_true_eq]
  split
  · rw [BitVec.toNat_sub]
    simp
    omega
  · rfl

theorem unusable_eq_true {k : Nat} : unusable k = true ↔ 0xFEA0 ≤ k ∧ k ≤ 0xFEFF := by simp [unusable]

theorem unusable_eq_false {k : Nat} : unusable k = false ↔ ¬(0xFEA0 ≤ k ∧ k ≤ 0xFEFF) := by
  rw [← unusable_eq_true, Bool.not_eq_true]

theorem reachable_eq_true {k : Nat} :
    Memory.reachable k = true ↔ k < 0x10000 ∧ ¬(0xE000 ≤ k ∧ k ≤ 0xFDFF) ∧ ¬(0xFEA0 ≤ k ∧ k ≤ 0xFEFF) := by
  simp only [Memory.reachable, inEcho, unusable, Bool.and_eq_true, Bool.not_eq_true', Bool.and_eq_false_iff,
    decide_eq_true_eq, decide_eq_false_iff_not]
  omega

/-- The cell of an address outside the unusable range is reachable. -/
theorem reachable_mapAddr {a : Word} (h : unusable a.toNat = false) : Memory.reachable (mapAddr a).toNat = true := by
  have ha := a.isLt
  rw [unusable_eq_false] at h
  rw [reachable_eq_true, mapAddr_toNat]
  split <;> omega

theorem wf_write8 {m : Memory} (h : m.wf = true) (a : Word) (v : Byte) : (m.write8 a v).wf = true := by
  unfold Memory.write8
  split
  · exact h
  · next hu => exact wf_set h (reachable_mapAddr (by simpa using hu)) v

/-- `write8` at one address, `read8` at another: same cell or not. -/
theorem mem_read8_write8 (m : Memory) (sentinel : Byte) (x a : Word) (v : Byte) :
    (m.write8 x v).read8 sentinel a =
      if mapAddr a = mapAddr x ∧ unusable x.toNat = false then
        (if unusable a.toNat then sentinel else v) else m.read8 sentinel a := by
  unfold Memory.write8 Memory.read8
  by_cases hx : unusable x.toNat = true
  · simp [hx]
  · simp only [hx, Bool.false_eq_true, if_false, get_set, and_true]
    by_cases ha : unusable a.toNat = true
    · simp [ha]
    · simp only [ha, Bool.false_eq_true, if_false, BitVec.toNat_inj]

/-- No address of a usable cell is in the unusable range. -/
theorem unusable_of_mapAddr_eq {a x : Word} (h : mapAddr a = mapAddr x) (hx : unusable x.toNat = false) :
    unusable a.toNat = false := by
  have ha := a.isLt
  have e := congrArg BitVec.toNat h
  rw [mapAddr_toNat, mapAddr_toNat] at e
  rw [unusable_eq_false] at hx ⊢
  split at e <;> split at e <;> omega

theorem write8_keeps_wf {s : State} (h : s.mem.wf = true) (a : Word) (v : Byte) : (s.write8 a v).mem.wf = true :=
  wf_write8 h a v

theorem write16_keeps_wf {s : State} (h : s.mem.wf = true) (a v : Word) : (s.write16 a v).mem.wf = true :=
  wf_write8 (wf_write8 h a (lo v)) (a + 1) (hi v)

theorem push16_keeps_wf {s : State} (h : s.mem.wf = true) (v : Word) : (s.push16 v).mem.wf = true :=
  wf_write8 (wf_write8 h (s.sp - 1) (hi v)) (s.sp - 1 - 1) (lo v)

theorem harnessWrite_keeps_wf {s : State} (h : s.mem.wf = true) (w : HarnessWrite) :
    (s.harnessWrite w).mem.wf = true := by
  cases w with
  | reg8 r v => cases r <;> exact h
  | pair p v => cases p <;> exact h
  | cell a v => exact wf_write8 h a v
  | _ => exact h

/-! ### The image and reset -/

theorem wfFrom_ofBytesAt (k : Nat) (bytes : List Byte) : (Memory.ofBytesAt k bytes).wfFrom k = true := by
  induction bytes generalizing k with
  | nil => rfl
  | cons v rest ih =>
    simp only [Memory.ofBytesAt]
    split
    · next h =>
      simp only [Bool.and_eq_true, decide_eq_true_eq] at h
      simp [Memory.wfFrom, h.1, h.2, ih]
    · exact wfFrom_mono (Nat.le_succ k) (ih (k + 1))

theorem wf_ofImage (image : List Byte) : (Memory.ofImage image).wf = true := wfFrom_ofBytesAt 0 image

theorem wf_boot (cfg : Config) (image : List Byte) : (State.boot cfg image).mem.wf = true := wf_ofImage image

theorem wf_reset : State.reset.mem.wf = true := rfl

/-- A reachable cell of an image holds its byte. -/
theorem get_ofBytesAt (k j : Nat) (bytes : List Byte) (hj : Memory.reachable j = true) (h : k ≤ j) :
    (Memory.ofBytesAt k bytes).get j = bytes.getD (j - k) Memory.unlisted := by
  induction bytes generalizing k with
  | nil => simp [Memory.ofBytesAt, Memory.get]
  | cons v rest ih =>
    rcases Nat.eq_or_lt_of_le h with rfl | hlt
    · have lt : ∀ (m : Memory) (b : Nat), k < b → m.wfFrom b = true → m.get k = Memory.unlisted := by
        intro m
        induction m with
        | nil => intros; rfl
        | cons x xs ihx =>
          intro b hb hw
          simp only [Memory.wfFrom, Bool.and_eq_true, decide_eq_true_eq] at hw
          have hne : k ≠ x.1 := by omega
          simp only [Memory.get, hne, if_false]
          exact ihx (x.1 + 1) (by omega) hw.2
      simp only [Memory.ofBytesAt, hj, Bool.true_and, decide_eq_true_eq]
      split
      · simp [Memory.get]
      · next hv => simp only [ne_eq, Decidable.not_not] at hv; simp [lt _ _ (Nat.lt_succ_self k) (wfFrom_ofBytesAt _ _), hv]
    · have e : j - k = (j - (k + 1)) + 1 := by omega
      simp only [Memory.ofBytesAt, e, List.getD_cons_succ]
      split
      · have hne : j ≠ k := by omega
        simp only [Memory.get, hne, if_false]
        exact ih (k + 1) hlt
      · exact ih (k + 1) hlt

/-- With no image and the default parameters reset is `State.reset` (R48, R460). -/
theorem boot_default : State.boot Config.default [] = State.reset := rfl

end Sys2Proof.Laws
end

