-- ==== Sys2Proof/Laws/Ops.lean ====
section
/-! SUPPORT. One lemma for each shared operation that says what it does: the fetch, stores and loads, the stack, the
operand writes, and the end of an instruction. -/

namespace Sys2Proof.Laws

open Sys2Proof.Machine

/-! ### The fetch -/

/-- Passing an instruction's bytes moves PC to `seqPC`, consumes `halt_bug` and does nothing else. -/
theorem passBytes_eq (n : Nat) (s : State) :
    s.passBytes (n + 1) = { s with pc := seqPC (n + 1) s, haltBug := false } := by
  induction n generalizing s with
  | zero =>
    obtain ⟨⟩ := s
    simp only [State.passBytes, State.fetch8, seqPC]
    split <;> simp
  | succ n ih =>
    show s.fetch8.2.passBytes (n + 1) = _
    rw [ih]
    have hpc : seqPC (n + 1) s.fetch8.2 = seqPC (n + 1 + 1) s := by
      cases hb : s.haltBug <;>
        simp [seqPC, State.fetch8, hb, ← BitVec.toNat_inj, BitVec.toNat_add, BitVec.toNat_sub] <;> omega
    rw [hpc]
    rfl

@[simp] theorem passBytes_pc (n : Nat) (s : State) : (s.passBytes (n + 1)).pc = seqPC (n + 1) s := by
  rw [passBytes_eq]

@[simp] theorem passBytes_haltBug (n : Nat) (s : State) : (s.passBytes (n + 1)).haltBug = false := by
  rw [passBytes_eq]

/-- The three bytes an instruction is decoded from. -/
theorem fetchInstr_eq (s : State) : s.fetchInstr =
    decodeBytes (s.read8 (fetchAddr s 0)) (s.read8 (fetchAddr s 1)) (s.read8 (fetchAddr s 2)) := by
  have h0 : s.fetch8.1 = s.read8 s.pc := rfl
  have h1 : (s.passBytes 1).fetch8.1 = s.read8 (s.passBytes 1).pc := read8_passBytes s 1 _
  have h2 : (s.passBytes 2).fetch8.1 = s.read8 (s.passBytes 2).pc := read8_passBytes s 2 _
  rw [State.fetchInstr, h0, h1, h2, passBytes_pc, passBytes_pc]
  cases hb : s.haltBug <;>
    simp only [seqPC, fetchAddr, hb, if_true, if_false, Bool.false_eq_true] <;> congr 2 <;>
    simp [← BitVec.toNat_inj, BitVec.toNat_add, BitVec.toNat_sub] <;> try omega

/-! ### Stores -/

/-- Read after write through the map, in the terms of `StoredAt`. -/
theorem read8_write8 (s : State) (x a : Word) (v : Byte) : (s.write8 x v).read8 a =
    if mapAddr a = mapAddr x ∧ unusable x.toNat = false then v else s.read8 a := by
  show (s.mem.write8 x v).read8 s.cfg.unusableRead a = _
  rw [mem_read8_write8]
  by_cases h : mapAddr a = mapAddr x ∧ unusable x.toNat = false
  · simp [h, unusable_of_mapAddr_eq h.1 h.2]
  · simp only [if_neg h]; rfl

/-- Only memory and `UNUSABLE_READ` decide what an address reads as. -/
theorem read8_congr {s t : State} (hm : t.mem = s.mem) (hc : t.cfg = s.cfg) (a : Word) : t.read8 a = s.read8 a := by
  simp only [State.read8, hm, hc]

theorem sameMem_of_mem {s t : State} (hm : t.mem = s.mem) (hc : t.cfg = s.cfg) : SameMem s t :=
  read8_congr hm hc

/-- A state whose memory is one store away has that byte stored. -/
theorem storedAt_of_mem {s t : State} {x : Word} {v : Byte} (hm : t.mem = s.mem.write8 x v) (hc : t.cfg = s.cfg) :
    StoredAt x v s t := by
  intro a
  rw [← read8_write8]
  exact read8_congr (s := s.write8 x v) hm hc a

/-- The cells of two neighbouring addresses differ. -/
theorem mapAddr_ne_succ (x : Word) : mapAddr (x + 1) ≠ mapAddr x := by
  intro h
  have e := congrArg BitVec.toNat h
  rw [mapAddr_toNat, mapAddr_toNat, BitVec.toNat_add] at e
  have hx := x.isLt
  simp at e
  split at e <;> split at e <;> omega

/-- Two stores, the later one first in the order of reading; the order does not matter when the cells differ (R79). -/
theorem storedTwo_of_mem {s t : State} {x y : Word} {vx vy : Byte} (hne : mapAddr x ≠ mapAddr y)
    (hm : t.mem = (s.mem.write8 x vx).write8 y vy) (hc : t.cfg = s.cfg) : StoredTwo x vx y vy s t := by
  intro a
  have h : t.read8 a = ((s.write8 x vx).write8 y vy).read8 a := read8_congr (s := (s.write8 x vx).write8 y vy) hm hc a
  rw [h, read8_write8, read8_write8]
  by_cases hy : mapAddr a = mapAddr y
  · have hx : mapAddr a ≠ mapAddr x := fun e => hne (e.symm.trans hy)
    simp [hx]
  · simp [hy]

/-! ### The stack -/

@[simp] theorem sub_one_sub_one (x : Word) : x - 1#16 - 1#16 = x - 2#16 := by
  simp [BitVec.sub_sub]

@[simp] theorem add_one_add_one (x : Word) : x + 1#16 + 1#16 = x + 2#16 := by
  simp [BitVec.add_assoc]

theorem sub_two_add_one (x : Word) : x - 2 + 1 = x - 1 := by
  simp [← BitVec.toNat_inj, BitVec.toNat_add, BitVec.toNat_sub]; omega

theorem pushedAt_of_mem {s t : State} {sp v : Word}
    (hm : t.mem = (s.mem.write8 (sp - 1) (hi v)).write8 (sp - 1 - 1) (lo v)) (hc : t.cfg = s.cfg) :
    PushedAt sp v s t := by
  have e : sp - 1 - 1 = sp - 2 := by simp
  rw [e] at hm
  refine storedTwo_of_mem ?_ hm hc
  have h := mapAddr_ne_succ (sp - 2)
  rwa [sub_two_add_one] at h

/-- The word a pop reads. -/
theorem pop16_fst (s : State) : s.pop16.1 = stackTop s := rfl

theorem pop16_passBytes_fst (s : State) (n : Nat) : (s.passBytes n).pop16.1 = stackTop s := by
  rw [pop16_fst, stackTop, stackTop]; simp

/-! ### Pairs -/

@[simp] theorem reg16_setReg16 (s : State) (p : Reg16) (v : Word) : (s.setReg16 p v).reg16 p = v := by
  cases p <;> simp [State.reg16, State.setReg16, State.bc, State.de, State.hl]

theorem regsExcept_setReg16 (s : State) (p : Reg16) (v : Word) : RegsExcept p.regs s (s.setReg16 p v) := by
  intro r h
  cases p <;> cases r <;> simp_all [Reg16.regs, State.reg8, State.setReg16]

theorem regsExcept_setReg16S (s : State) (p : Reg16S) (v : Word) : RegsExcept p.regs s (s.setReg16S p v) := by
  intro r h
  cases p <;> cases r <;> simp_all [Reg16S.regs, State.reg8, State.setReg16S]

/-- `AF <- v` masks the low nibble (R31, R33). -/
theorem af_setAF (s : State) (v : Word) : (s.setAF v).af = v &&& 0xFFF0 := by
  show w16 (hi v) (lo v &&& 0xF0) = v &&& 0xFFF0
  apply BitVec.eq_of_getLsbD_eq
  intro i h
  have : i = 0 ∨ i = 1 ∨ i = 2 ∨ i = 3 ∨ i = 4 ∨ i = 5 ∨ i = 6 ∨ i = 7 ∨ i = 8 ∨ i = 9 ∨ i = 10 ∨ i = 11 ∨ i = 12 ∨
    i = 13 ∨ i = 14 ∨ i = 15 := by omega
  rcases this with rfl | rfl | rfl | rfl | rfl | rfl | rfl | rfl | rfl | rfl | rfl | rfl | rfl | rfl | rfl | rfl <;>
    rw [getLsbD_w16] <;> simp [BitVec.getLsbD_and, getLsbD_hi, getLsbD_lo, -BitVec.getLsbD_eq_getElem]

theorem reg16S_setReg16S (s : State) (p : Reg16S) (v : Word) :
    (s.setReg16S p v).reg16S p = if p = .af then v &&& 0xFFF0 else v := by
  cases p
  · simp [State.reg16S, State.setReg16S, State.bc]
  · simp [State.reg16S, State.setReg16S, State.de]
  · simp [State.reg16S, State.setReg16S, State.hl]
  · simpa [State.reg16S, State.setReg16S] using af_setAF s v

/-! ### Operands -/

/-- Writing an operand after the fetch replaces its value and nothing else. -/
theorem wroteOperand_writeR8 (o : Operand8) (v : Byte) (s : State) (n t : Nat) :
    WroteOperand o v s (((s.passBytes n).writeR8 o v).report t) := by
  cases o with
  | reg r =>
    refine ⟨by simp [State.writeR8], fun r' h => ?_, sameMem_of_mem (by simp [State.writeR8]) (by simp)⟩
    simp only [List.mem_singleton] at h
    simp [State.writeR8, reg8_setReg8, h]
  | memHL => exact ⟨storedAt_of_mem (by simp [State.writeR8]) (by simp), fun r h => by simp [State.writeR8]⟩

/-- The same with a flag record applied. -/
theorem wroteOperand_writeR8_flags (o : Operand8) (v : Byte) (s : State) (n t : Nat) (fl : FlagRec) :
    WroteOperand o v s ((((s.passBytes n).writeR8 o v).applyFlags fl).report t) := by
  cases o with
  | reg r =>
    refine ⟨by simp [State.writeR8], fun r' h => ?_, sameMem_of_mem (by simp [State.writeR8]) (by simp)⟩
    simp only [List.mem_singleton] at h
    simp [State.writeR8, reg8_setReg8, h]
  | memHL => exact ⟨storedAt_of_mem (by simp [State.writeR8]) (by simp), fun r h => by simp [State.writeR8]⟩

/-! ### The end of an instruction -/

@[simp] theorem finish_eq (t : Nat) (s : State) : finish t s = .next (s.report t) := rfl

/-- The end of an ordinary instruction from a state that differs from the one after the fetch in data only. -/
theorem ordinary_of_fields {s u : State} {n t : Nat} (hpc : u.pc = seqPC n s) (hb : u.haltBug = false)
    (hi : u.ime = s.ime) (he : u.eiPending = s.eiPending) (hr : u.run = s.run) (hc : u.cfg = s.cfg)
    (hq : u.inputs = s.inputs) (hn : u.input = s.input) : Ordinary n t s (u.report t) :=
  ⟨hpc, ⟨hi, he, hb, hr, hc, hq, hn⟩, by simp [Reported, hc]⟩

/-- The same for an operation on A. -/
theorem onlyAF_of_fields {s u : State} {n t : Nat} (hr : RegsExcept [.a] s u) (hs : u.sp = s.sp) (hm : u.mem = s.mem)
    (hpc : u.pc = seqPC n s) (hb : u.haltBug = false) (hi : u.ime = s.ime) (he : u.eiPending = s.eiPending)
    (hrun : u.run = s.run) (hc : u.cfg = s.cfg) (hq : u.inputs = s.inputs) (hn : u.input = s.input) :
    OnlyAF n t s (u.report t) :=
  ⟨fun r h => by rw [reg8_report]; exact hr r h, hs, sameMem_of_mem hm hc,
    ordinary_of_fields hpc hb hi he hrun hc hq hn⟩

end Sys2Proof.Laws
end

