-- ==== Sys2Proof/Laws/PerInstr.lean ====
section
/-! SUPPORT. A statement about every instruction as syntax, constructor by constructor. -/

namespace Sys2Proof.Laws

/-- The instruction's encoding is as long as its first byte says (30_encoding.md R110, R124). -/
def Layout.Statement (i : Instr) : Prop := (encode i).length = lengthOf ((encode i).headD 0)

theorem Layout.ld_BC_d16 (v : Word) : Layout.Statement (.ld_BC_d16 v) := rfl
theorem Layout.ld_B_d8 (n : Byte) : Layout.Statement (.ld_B_d8 n) := rfl
theorem Layout.ld_ma16_SP (a : Word) : Layout.Statement (.ld_ma16_SP a) := rfl
theorem Layout.ld_C_d8 (n : Byte) : Layout.Statement (.ld_C_d8 n) := rfl
theorem Layout.stop (ignored : Byte) : Layout.Statement (.stop ignored) := rfl
theorem Layout.ld_DE_d16 (v : Word) : Layout.Statement (.ld_DE_d16 v) := rfl
theorem Layout.ld_D_d8 (n : Byte) : Layout.Statement (.ld_D_d8 n) := rfl
theorem Layout.jr_e8 (e : Byte) : Layout.Statement (.jr_e8 e) := rfl
theorem Layout.ld_E_d8 (n : Byte) : Layout.Statement (.ld_E_d8 n) := rfl
theorem Layout.jr_NZ_e8 (e : Byte) : Layout.Statement (.jr_NZ_e8 e) := rfl
theorem Layout.ld_HL_d16 (v : Word) : Layout.Statement (.ld_HL_d16 v) := rfl
theorem Layout.ld_H_d8 (n : Byte) : Layout.Statement (.ld_H_d8 n) := rfl
theorem Layout.jr_Z_e8 (e : Byte) : Layout.Statement (.jr_Z_e8 e) := rfl
theorem Layout.ld_L_d8 (n : Byte) : Layout.Statement (.ld_L_d8 n) := rfl
theorem Layout.jr_NC_e8 (e : Byte) : Layout.Statement (.jr_NC_e8 e) := rfl
theorem Layout.ld_SP_d16 (v : Word) : Layout.Statement (.ld_SP_d16 v) := rfl
theorem Layout.ld_mHL_d8 (n : Byte) : Layout.Statement (.ld_mHL_d8 n) := rfl
theorem Layout.jr_C_e8 (e : Byte) : Layout.Statement (.jr_C_e8 e) := rfl
theorem Layout.ld_A_d8 (n : Byte) : Layout.Statement (.ld_A_d8 n) := rfl
theorem Layout.jp_NZ_a16 (a : Word) : Layout.Statement (.jp_NZ_a16 a) := rfl
theorem Layout.jp_a16 (a : Word) : Layout.Statement (.jp_a16 a) := rfl
theorem Layout.call_NZ_a16 (a : Word) : Layout.Statement (.call_NZ_a16 a) := rfl
theorem Layout.add_A_d8 (n : Byte) : Layout.Statement (.add_A_d8 n) := rfl
theorem Layout.jp_Z_a16 (a : Word) : Layout.Statement (.jp_Z_a16 a) := rfl
theorem Layout.prefix_CB (xx : Byte) : Layout.Statement (.prefix_CB xx) := rfl
theorem Layout.call_Z_a16 (a : Word) : Layout.Statement (.call_Z_a16 a) := rfl
theorem Layout.call_a16 (a : Word) : Layout.Statement (.call_a16 a) := rfl
theorem Layout.adc_A_d8 (n : Byte) : Layout.Statement (.adc_A_d8 n) := rfl
theorem Layout.jp_NC_a16 (a : Word) : Layout.Statement (.jp_NC_a16 a) := rfl
theorem Layout.call_NC_a16 (a : Word) : Layout.Statement (.call_NC_a16 a) := rfl
theorem Layout.sub_A_d8 (n : Byte) : Layout.Statement (.sub_A_d8 n) := rfl
theorem Layout.jp_C_a16 (a : Word) : Layout.Statement (.jp_C_a16 a) := rfl
theorem Layout.call_C_a16 (a : Word) : Layout.Statement (.call_C_a16 a) := rfl
theorem Layout.sbc_A_d8 (n : Byte) : Layout.Statement (.sbc_A_d8 n) := rfl
theorem Layout.ldh_ma8_A (n : Byte) : Layout.Statement (.ldh_ma8_A n) := rfl
theorem Layout.and_A_d8 (n : Byte) : Layout.Statement (.and_A_d8 n) := rfl
theorem Layout.add_SP_e8 (e : Byte) : Layout.Statement (.add_SP_e8 e) := rfl
theorem Layout.ld_ma16_A (a : Word) : Layout.Statement (.ld_ma16_A a) := rfl
theorem Layout.xor_A_d8 (n : Byte) : Layout.Statement (.xor_A_d8 n) := rfl
theorem Layout.ldh_A_ma8 (n : Byte) : Layout.Statement (.ldh_A_ma8 n) := rfl
theorem Layout.or_A_d8 (n : Byte) : Layout.Statement (.or_A_d8 n) := rfl
theorem Layout.ld_HL_SPe8 (e : Byte) : Layout.Statement (.ld_HL_SPe8 e) := rfl
theorem Layout.ld_A_ma16 (a : Word) : Layout.Statement (.ld_A_ma16 a) := rfl
theorem Layout.cp_A_d8 (n : Byte) : Layout.Statement (.cp_A_d8 n) := rfl
theorem Layout.nop : Layout.Statement (.nop) := rfl
theorem Layout.ld_mBC_A : Layout.Statement (.ld_mBC_A) := rfl
theorem Layout.inc_BC : Layout.Statement (.inc_BC) := rfl
theorem Layout.inc_B : Layout.Statement (.inc_B) := rfl
theorem Layout.dec_B : Layout.Statement (.dec_B) := rfl
theorem Layout.rlca : Layout.Statement (.rlca) := rfl
theorem Layout.add_HL_BC : Layout.Statement (.add_HL_BC) := rfl
theorem Layout.ld_A_mBC : Layout.Statement (.ld_A_mBC) := rfl
theorem Layout.dec_BC : Layout.Statement (.dec_BC) := rfl
theorem Layout.inc_C : Layout.Statement (.inc_C) := rfl
theorem Layout.dec_C : Layout.Statement (.dec_C) := rfl
theorem Layout.rrca : Layout.Statement (.rrca) := rfl
theorem Layout.ld_mDE_A : Layout.Statement (.ld_mDE_A) := rfl
theorem Layout.inc_DE : Layout.Statement (.inc_DE) := rfl
theorem Layout.inc_D : Layout.Statement (.inc_D) := rfl
theorem Layout.dec_D : Layout.Statement (.dec_D) := rfl
theorem Layout.rla : Layout.Statement (.rla) := rfl
theorem Layout.add_HL_DE : Layout.Statement (.add_HL_DE) := rfl
theorem Layout.ld_A_mDE : Layout.Statement (.ld_A_mDE) := rfl
theorem Layout.dec_DE : Layout.Statement (.dec_DE) := rfl
theorem Layout.inc_E : Layout.Statement (.inc_E) := rfl
theorem Layout.dec_E : Layout.Statement (.dec_E) := rfl
theorem Layout.rra : Layout.Statement (.rra) := rfl
theorem Layout.ld_mHLinc_A : Layout.Statement (.ld_mHLinc_A) := rfl
theorem Layout.inc_HL : Layout.Statement (.inc_HL) := rfl
theorem Layout.inc_H : Layout.Statement (.inc_H) := rfl
theorem Layout.dec_H : Layout.Statement (.dec_H) := rfl
theorem Layout.daa : Layout.Statement (.daa) := rfl
theorem Layout.add_HL_HL : Layout.Statement (.add_HL_HL) := rfl
theorem Layout.ld_A_mHLinc : Layout.Statement (.ld_A_mHLinc) := rfl
theorem Layout.dec_HL : Layout.Statement (.dec_HL) := rfl
theorem Layout.inc_L : Layout.Statement (.inc_L) := rfl
theorem Layout.dec_L : Layout.Statement (.dec_L) := rfl
theorem Layout.cpl : Layout.Statement (.cpl) := rfl
theorem Layout.ld_mHLdec_A : Layout.Statement (.ld_mHLdec_A) := rfl
theorem Layout.inc_SP : Layout.Statement (.inc_SP) := rfl
theorem Layout.inc_mHL : Layout.Statement (.inc_mHL) := rfl
theorem Layout.dec_mHL : Layout.Statement (.dec_mHL) := rfl
theorem Layout.scf : Layout.Statement (.scf) := rfl
theorem Layout.add_HL_SP : Layout.Statement (.add_HL_SP) := rfl
theorem Layout.ld_A_mHLdec : Layout.Statement (.ld_A_mHLdec) := rfl
theorem Layout.dec_SP : Layout.Statement (.dec_SP) := rfl
theorem Layout.inc_A : Layout.Statement (.inc_A) := rfl
theorem Layout.dec_A : Layout.Statement (.dec_A) := rfl
theorem Layout.ccf : Layout.Statement (.ccf) := rfl
theorem Layout.ld_B_B : Layout.Statement (.ld_B_B) := rfl
theorem Layout.ld_B_C : Layout.Statement (.ld_B_C) := rfl
theorem Layout.ld_B_D : Layout.Statement (.ld_B_D) := rfl
theorem Layout.ld_B_E : Layout.Statement (.ld_B_E) := rfl
theorem Layout.ld_B_H : Layout.Statement (.ld_B_H) := rfl
theorem Layout.ld_B_L : Layout.Statement (.ld_B_L) := rfl
theorem Layout.ld_B_mHL : Layout.Statement (.ld_B_mHL) := rfl
theorem Layout.ld_B_A : Layout.Statement (.ld_B_A) := rfl
theorem Layout.ld_C_B : Layout.Statement (.ld_C_B) := rfl
theorem Layout.ld_C_C : Layout.Statement (.ld_C_C) := rfl
theorem Layout.ld_C_D : Layout.Statement (.ld_C_D) := rfl
theorem Layout.ld_C_E : Layout.Statement (.ld_C_E) := rfl
theorem Layout.ld_C_H : Layout.Statement (.ld_C_H) := rfl
theorem Layout.ld_C_L : Layout.Statement (.ld_C_L) := rfl
theorem Layout.ld_C_mHL : Layout.Statement (.ld_C_mHL) := rfl
theorem Layout.ld_C_A : Layout.Statement (.ld_C_A) := rfl
theorem Layout.ld_D_B : Layout.Statement (.ld_D_B) := rfl
theorem Layout.ld_D_C : Layout.Statement (.ld_D_C) := rfl
theorem Layout.ld_D_D : Layout.Statement (.ld_D_D) := rfl
theorem Layout.ld_D_E : Layout.Statement (.ld_D_E) := rfl
theorem Layout.ld_D_H : Layout.Statement (.ld_D_H) := rfl
theorem Layout.ld_D_L : Layout.Statement (.ld_D_L) := rfl
theorem Layout.ld_D_mHL : Layout.Statement (.ld_D_mHL) := rfl
theorem Layout.ld_D_A : Layout.Statement (.ld_D_A) := rfl
theorem Layout.ld_E_B : Layout.Statement (.ld_E_B) := rfl
theorem Layout.ld_E_C : Layout.Statement (.ld_E_C) := rfl
theorem Layout.ld_E_D : Layout.Statement (.ld_E_D) := rfl
theorem Layout.ld_E_E : Layout.Statement (.ld_E_E) := rfl
theorem Layout.ld_E_H : Layout.Statement (.ld_E_H) := rfl
theorem Layout.ld_E_L : Layout.Statement (.ld_E_L) := rfl
theorem Layout.ld_E_mHL : Layout.Statement (.ld_E_mHL) := rfl
theorem Layout.ld_E_A : Layout.Statement (.ld_E_A) := rfl
theorem Layout.ld_H_B : Layout.Statement (.ld_H_B) := rfl
theorem Layout.ld_H_C : Layout.Statement (.ld_H_C) := rfl
theorem Layout.ld_H_D : Layout.Statement (.ld_H_D) := rfl
theorem Layout.ld_H_E : Layout.Statement (.ld_H_E) := rfl
theorem Layout.ld_H_H : Layout.Statement (.ld_H_H) := rfl
theorem Layout.ld_H_L : Layout.Statement (.ld_H_L) := rfl
theorem Layout.ld_H_mHL : Layout.Statement (.ld_H_mHL) := rfl
theorem Layout.ld_H_A : Layout.Statement (.ld_H_A) := rfl
theorem Layout.ld_L_B : Layout.Statement (.ld_L_B) := rfl
theorem Layout.ld_L_C : Layout.Statement (.ld_L_C) := rfl
theorem Layout.ld_L_D : Layout.Statement (.ld_L_D) := rfl
theorem Layout.ld_L_E : Layout.Statement (.ld_L_E) := rfl
theorem Layout.ld_L_H : Layout.Statement (.ld_L_H) := rfl
theorem Layout.ld_L_L : Layout.Statement (.ld_L_L) := rfl
theorem Layout.ld_L_mHL : Layout.Statement (.ld_L_mHL) := rfl
theorem Layout.ld_L_A : Layout.Statement (.ld_L_A) := rfl
theorem Layout.ld_mHL_B : Layout.Statement (.ld_mHL_B) := rfl
theorem Layout.ld_mHL_C : Layout.Statement (.ld_mHL_C) := rfl
theorem Layout.ld_mHL_D : Layout.Statement (.ld_mHL_D) := rfl
theorem Layout.ld_mHL_E : Layout.Statement (.ld_mHL_E) := rfl
theorem Layout.ld_mHL_H : Layout.Statement (.ld_mHL_H) := rfl
theorem Layout.ld_mHL_L : Layout.Statement (.ld_mHL_L) := rfl
theorem Layout.halt : Layout.Statement (.halt) := rfl
theorem Layout.ld_mHL_A : Layout.Statement (.ld_mHL_A) := rfl
theorem Layout.ld_A_B : Layout.Statement (.ld_A_B) := rfl
theorem Layout.ld_A_C : Layout.Statement (.ld_A_C) := rfl
theorem Layout.ld_A_D : Layout.Statement (.ld_A_D) := rfl
theorem Layout.ld_A_E : Layout.Statement (.ld_A_E) := rfl
theorem Layout.ld_A_H : Layout.Statement (.ld_A_H) := rfl
theorem Layout.ld_A_L : Layout.Statement (.ld_A_L) := rfl
theorem Layout.ld_A_mHL : Layout.Statement (.ld_A_mHL) := rfl
theorem Layout.ld_A_A : Layout.Statement (.ld_A_A) := rfl
theorem Layout.add_A_B : Layout.Statement (.add_A_B) := rfl
theorem Layout.add_A_C : Layout.Statement (.add_A_C) := rfl
theorem Layout.add_A_D : Layout.Statement (.add_A_D) := rfl
theorem Layout.add_A_E : Layout.Statement (.add_A_E) := rfl
theorem Layout.add_A_H : Layout.Statement (.add_A_H) := rfl
theorem Layout.add_A_L : Layout.Statement (.add_A_L) := rfl
theorem Layout.add_A_mHL : Layout.Statement (.add_A_mHL) := rfl
theorem Layout.add_A_A : Layout.Statement (.add_A_A) := rfl
theorem Layout.adc_A_B : Layout.Statement (.adc_A_B) := rfl
theorem Layout.adc_A_C : Layout.Statement (.adc_A_C) := rfl
theorem Layout.adc_A_D : Layout.Statement (.adc_A_D) := rfl
theorem Layout.adc_A_E : Layout.Statement (.adc_A_E) := rfl
theorem Layout.adc_A_H : Layout.Statement (.adc_A_H) := rfl
theorem Layout.adc_A_L : Layout.Statement (.adc_A_L) := rfl
theorem Layout.adc_A_mHL : Layout.Statement (.adc_A_mHL) := rfl
theorem Layout.adc_A_A : Layout.Statement (.adc_A_A) := rfl
theorem Layout.sub_A_B : Layout.Statement (.sub_A_B) := rfl
theorem Layout.sub_A_C : Layout.Statement (.sub_A_C) := rfl
theorem Layout.sub_A_D : Layout.Statement (.sub_A_D) := rfl
theorem Layout.sub_A_E : Layout.Statement (.sub_A_E) := rfl
theorem Layout.sub_A_H : Layout.Statement (.sub_A_H) := rfl
theorem Layout.sub_A_L : Layout.Statement (.sub_A_L) := rfl
theorem Layout.sub_A_mHL : Layout.Statement (.sub_A_mHL) := rfl
theorem Layout.sub_A_A : Layout.Statement (.sub_A_A) := rfl
theorem Layout.sbc_A_B : Layout.Statement (.sbc_A_B) := rfl
theorem Layout.sbc_A_C : Layout.Statement (.sbc_A_C) := rfl
theorem Layout.sbc_A_D : Layout.Statement (.sbc_A_D) := rfl
theorem Layout.sbc_A_E : Layout.Statement (.sbc_A_E) := rfl
theorem Layout.sbc_A_H : Layout.Statement (.sbc_A_H) := rfl
theorem Layout.sbc_A_L : Layout.Statement (.sbc_A_L) := rfl
theorem Layout.sbc_A_mHL : Layout.Statement (.sbc_A_mHL) := rfl
theorem Layout.sbc_A_A : Layout.Statement (.sbc_A_A) := rfl
theorem Layout.and_A_B : Layout.Statement (.and_A_B) := rfl
theorem Layout.and_A_C : Layout.Statement (.and_A_C) := rfl
theorem Layout.and_A_D : Layout.Statement (.and_A_D) := rfl
theorem Layout.and_A_E : Layout.Statement (.and_A_E) := rfl
theorem Layout.and_A_H : Layout.Statement (.and_A_H) := rfl
theorem Layout.and_A_L : Layout.Statement (.and_A_L) := rfl
theorem Layout.and_A_mHL : Layout.Statement (.and_A_mHL) := rfl
theorem Layout.and_A_A : Layout.Statement (.and_A_A) := rfl
theorem Layout.xor_A_B : Layout.Statement (.xor_A_B) := rfl
theorem Layout.xor_A_C : Layout.Statement (.xor_A_C) := rfl
theorem Layout.xor_A_D : Layout.Statement (.xor_A_D) := rfl
theorem Layout.xor_A_E : Layout.Statement (.xor_A_E) := rfl
theorem Layout.xor_A_H : Layout.Statement (.xor_A_H) := rfl
theorem Layout.xor_A_L : Layout.Statement (.xor_A_L) := rfl
theorem Layout.xor_A_mHL : Layout.Statement (.xor_A_mHL) := rfl
theorem Layout.xor_A_A : Layout.Statement (.xor_A_A) := rfl
theorem Layout.or_A_B : Layout.Statement (.or_A_B) := rfl
theorem Layout.or_A_C : Layout.Statement (.or_A_C) := rfl
theorem Layout.or_A_D : Layout.Statement (.or_A_D) := rfl
theorem Layout.or_A_E : Layout.Statement (.or_A_E) := rfl
theorem Layout.or_A_H : Layout.Statement (.or_A_H) := rfl
theorem Layout.or_A_L : Layout.Statement (.or_A_L) := rfl
theorem Layout.or_A_mHL : Layout.Statement (.or_A_mHL) := rfl
theorem Layout.or_A_A : Layout.Statement (.or_A_A) := rfl
theorem Layout.cp_A_B : Layout.Statement (.cp_A_B) := rfl
theorem Layout.cp_A_C : Layout.Statement (.cp_A_C) := rfl
theorem Layout.cp_A_D : Layout.Statement (.cp_A_D) := rfl
theorem Layout.cp_A_E : Layout.Statement (.cp_A_E) := rfl
theorem Layout.cp_A_H : Layout.Statement (.cp_A_H) := rfl
theorem Layout.cp_A_L : Layout.Statement (.cp_A_L) := rfl
theorem Layout.cp_A_mHL : Layout.Statement (.cp_A_mHL) := rfl
theorem Layout.cp_A_A : Layout.Statement (.cp_A_A) := rfl
theorem Layout.ret_NZ : Layout.Statement (.ret_NZ) := rfl
theorem Layout.pop_BC : Layout.Statement (.pop_BC) := rfl
theorem Layout.push_BC : Layout.Statement (.push_BC) := rfl
theorem Layout.rst_00 : Layout.Statement (.rst_00) := rfl
theorem Layout.ret_Z : Layout.Statement (.ret_Z) := rfl
theorem Layout.ret : Layout.Statement (.ret) := rfl
theorem Layout.rst_08 : Layout.Statement (.rst_08) := rfl
theorem Layout.ret_NC : Layout.Statement (.ret_NC) := rfl
theorem Layout.pop_DE : Layout.Statement (.pop_DE) := rfl
theorem Layout.undef_D3 : Layout.Statement (.undef_D3) := rfl
theorem Layout.push_DE : Layout.Statement (.push_DE) := rfl
theorem Layout.rst_10 : Layout.Statement (.rst_10) := rfl
theorem Layout.ret_C : Layout.Statement (.ret_C) := rfl
theorem Layout.reti : Layout.Statement (.reti) := rfl
theorem Layout.undef_DB : Layout.Statement (.undef_DB) := rfl
theorem Layout.undef_DD : Layout.Statement (.undef_DD) := rfl
theorem Layout.rst_18 : Layout.Statement (.rst_18) := rfl
theorem Layout.pop_HL : Layout.Statement (.pop_HL) := rfl
theorem Layout.ldh_mC_A : Layout.Statement (.ldh_mC_A) := rfl
theorem Layout.undef_E3 : Layout.Statement (.undef_E3) := rfl
theorem Layout.undef_E4 : Layout.Statement (.undef_E4) := rfl
theorem Layout.push_HL : Layout.Statement (.push_HL) := rfl
theorem Layout.rst_20 : Layout.Statement (.rst_20) := rfl
theorem Layout.jp_HL : Layout.Statement (.jp_HL) := rfl
theorem Layout.undef_EB : Layout.Statement (.undef_EB) := rfl
theorem Layout.undef_EC : Layout.Statement (.undef_EC) := rfl
theorem Layout.undef_ED : Layout.Statement (.undef_ED) := rfl
theorem Layout.rst_28 : Layout.Statement (.rst_28) := rfl
theorem Layout.pop_AF : Layout.Statement (.pop_AF) := rfl
theorem Layout.ldh_A_mC : Layout.Statement (.ldh_A_mC) := rfl
theorem Layout.di : Layout.Statement (.di) := rfl
theorem Layout.undef_F4 : Layout.Statement (.undef_F4) := rfl
theorem Layout.push_AF : Layout.Statement (.push_AF) := rfl
theorem Layout.rst_30 : Layout.Statement (.rst_30) := rfl
theorem Layout.ld_SP_HL : Layout.Statement (.ld_SP_HL) := rfl
theorem Layout.ei : Layout.Statement (.ei) := rfl
theorem Layout.undef_FC : Layout.Statement (.undef_FC) := rfl
theorem Layout.undef_FD : Layout.Statement (.undef_FD) := rfl
theorem Layout.rst_38 : Layout.Statement (.rst_38) := rfl
theorem Layout.rlc_B : Layout.Statement (.rlc_B) := rfl
theorem Layout.rlc_C : Layout.Statement (.rlc_C) := rfl
theorem Layout.rlc_D : Layout.Statement (.rlc_D) := rfl
theorem Layout.rlc_E : Layout.Statement (.rlc_E) := rfl
theorem Layout.rlc_H : Layout.Statement (.rlc_H) := rfl
theorem Layout.rlc_L : Layout.Statement (.rlc_L) := rfl
theorem Layout.rlc_mHL : Layout.Statement (.rlc_mHL) := rfl
theorem Layout.rlc_A : Layout.Statement (.rlc_A) := rfl
theorem Layout.rrc_B : Layout.Statement (.rrc_B) := rfl
theorem Layout.rrc_C : Layout.Statement (.rrc_C) := rfl
theorem Layout.rrc_D : Layout.Statement (.rrc_D) := rfl
theorem Layout.rrc_E : Layout.Statement (.rrc_E) := rfl
theorem Layout.rrc_H : Layout.Statement (.rrc_H) := rfl
theorem Layout.rrc_L : Layout.Statement (.rrc_L) := rfl
theorem Layout.rrc_mHL : Layout.Statement (.rrc_mHL) := rfl
theorem Layout.rrc_A : Layout.Statement (.rrc_A) := rfl
theorem Layout.rl_B : Layout.Statement (.rl_B) := rfl
theorem Layout.rl_C : Layout.Statement (.rl_C) := rfl
theorem Layout.rl_D : Layout.Statement (.rl_D) := rfl
theorem Layout.rl_E : Layout.Statement (.rl_E) := rfl
theorem Layout.rl_H : Layout.Statement (.rl_H) := rfl
theorem Layout.rl_L : Layout.Statement (.rl_L) := rfl
theorem Layout.rl_mHL : Layout.Statement (.rl_mHL) := rfl
theorem Layout.rl_A : Layout.Statement (.rl_A) := rfl
theorem Layout.rr_B : Layout.Statement (.rr_B) := rfl
theorem Layout.rr_C : Layout.Statement (.rr_C) := rfl
theorem Layout.rr_D : Layout.Statement (.rr_D) := rfl
theorem Layout.rr_E : Layout.Statement (.rr_E) := rfl
theorem Layout.rr_H : Layout.Statement (.rr_H) := rfl
theorem Layout.rr_L : Layout.Statement (.rr_L) := rfl
theorem Layout.rr_mHL : Layout.Statement (.rr_mHL) := rfl
theorem Layout.rr_A : Layout.Statement (.rr_A) := rfl
theorem Layout.sla_B : Layout.Statement (.sla_B) := rfl
theorem Layout.sla_C : Layout.Statement (.sla_C) := rfl
theorem Layout.sla_D : Layout.Statement (.sla_D) := rfl
theorem Layout.sla_E : Layout.Statement (.sla_E) := rfl
theorem Layout.sla_H : Layout.Statement (.sla_H) := rfl
theorem Layout.sla_L : Layout.Statement (.sla_L) := rfl
theorem Layout.sla_mHL : Layout.Statement (.sla_mHL) := rfl
theorem Layout.sla_A : Layout.Statement (.sla_A) := rfl
theorem Layout.sra_B : Layout.Statement (.sra_B) := rfl
theorem Layout.sra_C : Layout.Statement (.sra_C) := rfl
theorem Layout.sra_D : Layout.Statement (.sra_D) := rfl
theorem Layout.sra_E : Layout.Statement (.sra_E) := rfl
theorem Layout.sra_H : Layout.Statement (.sra_H) := rfl
theorem Layout.sra_L : Layout.Statement (.sra_L) := rfl
theorem Layout.sra_mHL : Layout.Statement (.sra_mHL) := rfl
theorem Layout.sra_A : Layout.Statement (.sra_A) := rfl
theorem Layout.swap_B : Layout.Statement (.swap_B) := rfl
theorem Layout.swap_C : Layout.Statement (.swap_C) := rfl
theorem Layout.swap_D : Layout.Statement (.swap_D) := rfl
theorem Layout.swap_E : Layout.Statement (.swap_E) := rfl
theorem Layout.swap_H : Layout.Statement (.swap_H) := rfl
theorem Layout.swap_L : Layout.Statement (.swap_L) := rfl
theorem Layout.swap_mHL : Layout.Statement (.swap_mHL) := rfl
theorem Layout.swap_A : Layout.Statement (.swap_A) := rfl
theorem Layout.srl_B : Layout.Statement (.srl_B) := rfl
theorem Layout.srl_C : Layout.Statement (.srl_C) := rfl
theorem Layout.srl_D : Layout.Statement (.srl_D) := rfl
theorem Layout.srl_E : Layout.Statement (.srl_E) := rfl
theorem Layout.srl_H : Layout.Statement (.srl_H) := rfl
theorem Layout.srl_L : Layout.Statement (.srl_L) := rfl
theorem Layout.srl_mHL : Layout.Statement (.srl_mHL) := rfl
theorem Layout.srl_A : Layout.Statement (.srl_A) := rfl
theorem Layout.bit_0_B : Layout.Statement (.bit_0_B) := rfl
theorem Layout.bit_0_C : Layout.Statement (.bit_0_C) := rfl
theorem Layout.bit_0_D : Layout.Statement (.bit_0_D) := rfl
theorem Layout.bit_0_E : Layout.Statement (.bit_0_E) := rfl
theorem Layout.bit_0_H : Layout.Statement (.bit_0_H) := rfl
theorem Layout.bit_0_L : Layout.Statement (.bit_0_L) := rfl
theorem Layout.bit_0_mHL : Layout.Statement (.bit_0_mHL) := rfl
theorem Layout.bit_0_A : Layout.Statement (.bit_0_A) := rfl
theorem Layout.bit_1_B : Layout.Statement (.bit_1_B) := rfl
theorem Layout.bit_1_C : Layout.Statement (.bit_1_C) := rfl
theorem Layout.bit_1_D : Layout.Statement (.bit_1_D) := rfl
theorem Layout.bit_1_E : Layout.Statement (.bit_1_E) := rfl
theorem Layout.bit_1_H : Layout.Statement (.bit_1_H) := rfl
theorem Layout.bit_1_L : Layout.Statement (.bit_1_L) := rfl
theorem Layout.bit_1_mHL : Layout.Statement (.bit_1_mHL) := rfl
theorem Layout.bit_1_A : Layout.Statement (.bit_1_A) := rfl
theorem Layout.bit_2_B : Layout.Statement (.bit_2_B) := rfl
theorem Layout.bit_2_C : Layout.Statement (.bit_2_C) := rfl
theorem Layout.bit_2_D : Layout.Statement (.bit_2_D) := rfl
theorem Layout.bit_2_E : Layout.Statement (.bit_2_E) := rfl
theorem Layout.bit_2_H : Layout.Statement (.bit_2_H) := rfl
theorem Layout.bit_2_L : Layout.Statement (.bit_2_L) := rfl
theorem Layout.bit_2_mHL : Layout.Statement (.bit_2_mHL) := rfl
theorem Layout.bit_2_A : Layout.Statement (.bit_2_A) := rfl
theorem Layout.bit_3_B : Layout.Statement (.bit_3_B) := rfl
theorem Layout.bit_3_C : Layout.Statement (.bit_3_C) := rfl
theorem Layout.bit_3_D : Layout.Statement (.bit_3_D) := rfl
theorem Layout.bit_3_E : Layout.Statement (.bit_3_E) := rfl
theorem Layout.bit_3_H : Layout.Statement (.bit_3_H) := rfl
theorem Layout.bit_3_L : Layout.Statement (.bit_3_L) := rfl
theorem Layout.bit_3_mHL : Layout.Statement (.bit_3_mHL) := rfl
theorem Layout.bit_3_A : Layout.Statement (.bit_3_A) := rfl
theorem Layout.bit_4_B : Layout.Statement (.bit_4_B) := rfl
theorem Layout.bit_4_C : Layout.Statement (.bit_4_C) := rfl
theorem Layout.bit_4_D : Layout.Statement (.bit_4_D) := rfl
theorem Layout.bit_4_E : Layout.Statement (.bit_4_E) := rfl
theorem Layout.bit_4_H : Layout.Statement (.bit_4_H) := rfl
theorem Layout.bit_4_L : Layout.Statement (.bit_4_L) := rfl
theorem Layout.bit_4_mHL : Layout.Statement (.bit_4_mHL) := rfl
theorem Layout.bit_4_A : Layout.Statement (.bit_4_A) := rfl
theorem Layout.bit_5_B : Layout.Statement (.bit_5_B) := rfl
theorem Layout.bit_5_C : Layout.Statement (.bit_5_C) := rfl
theorem Layout.bit_5_D : Layout.Statement (.bit_5_D) := rfl
theorem Layout.bit_5_E : Layout.Statement (.bit_5_E) := rfl
theorem Layout.bit_5_H : Layout.Statement (.bit_5_H) := rfl
theorem Layout.bit_5_L : Layout.Statement (.bit_5_L) := rfl
theorem Layout.bit_5_mHL : Layout.Statement (.bit_5_mHL) := rfl
theorem Layout.bit_5_A : Layout.Statement (.bit_5_A) := rfl
theorem Layout.bit_6_B : Layout.Statement (.bit_6_B) := rfl
theorem Layout.bit_6_C : Layout.Statement (.bit_6_C) := rfl
theorem Layout.bit_6_D : Layout.Statement (.bit_6_D) := rfl
theorem Layout.bit_6_E : Layout.Statement (.bit_6_E) := rfl
theorem Layout.bit_6_H : Layout.Statement (.bit_6_H) := rfl
theorem Layout.bit_6_L : Layout.Statement (.bit_6_L) := rfl
theorem Layout.bit_6_mHL : Layout.Statement (.bit_6_mHL) := rfl
theorem Layout.bit_6_A : Layout.Statement (.bit_6_A) := rfl
theorem Layout.bit_7_B : Layout.Statement (.bit_7_B) := rfl
theorem Layout.bit_7_C : Layout.Statement (.bit_7_C) := rfl
theorem Layout.bit_7_D : Layout.Statement (.bit_7_D) := rfl
theorem Layout.bit_7_E : Layout.Statement (.bit_7_E) := rfl
theorem Layout.bit_7_H : Layout.Statement (.bit_7_H) := rfl
theorem Layout.bit_7_L : Layout.Statement (.bit_7_L) := rfl
theorem Layout.bit_7_mHL : Layout.Statement (.bit_7_mHL) := rfl
theorem Layout.bit_7_A : Layout.Statement (.bit_7_A) := rfl
theorem Layout.res_0_B : Layout.Statement (.res_0_B) := rfl
theorem Layout.res_0_C : Layout.Statement (.res_0_C) := rfl
theorem Layout.res_0_D : Layout.Statement (.res_0_D) := rfl
theorem Layout.res_0_E : Layout.Statement (.res_0_E) := rfl
theorem Layout.res_0_H : Layout.Statement (.res_0_H) := rfl
theorem Layout.res_0_L : Layout.Statement (.res_0_L) := rfl
theorem Layout.res_0_mHL : Layout.Statement (.res_0_mHL) := rfl
theorem Layout.res_0_A : Layout.Statement (.res_0_A) := rfl
theorem Layout.res_1_B : Layout.Statement (.res_1_B) := rfl
theorem Layout.res_1_C : Layout.Statement (.res_1_C) := rfl
theorem Layout.res_1_D : Layout.Statement (.res_1_D) := rfl
theorem Layout.res_1_E : Layout.Statement (.res_1_E) := rfl
theorem Layout.res_1_H : Layout.Statement (.res_1_H) := rfl
theorem Layout.res_1_L : Layout.Statement (.res_1_L) := rfl
theorem Layout.res_1_mHL : Layout.Statement (.res_1_mHL) := rfl
theorem Layout.res_1_A : Layout.Statement (.res_1_A) := rfl
theorem Layout.res_2_B : Layout.Statement (.res_2_B) := rfl
theorem Layout.res_2_C : Layout.Statement (.res_2_C) := rfl
theorem Layout.res_2_D : Layout.Statement (.res_2_D) := rfl
theorem Layout.res_2_E : Layout.Statement (.res_2_E) := rfl
theorem Layout.res_2_H : Layout.Statement (.res_2_H) := rfl
theorem Layout.res_2_L : Layout.Statement (.res_2_L) := rfl
theorem Layout.res_2_mHL : Layout.Statement (.res_2_mHL) := rfl
theorem Layout.res_2_A : Layout.Statement (.res_2_A) := rfl
theorem Layout.res_3_B : Layout.Statement (.res_3_B) := rfl
theorem Layout.res_3_C : Layout.Statement (.res_3_C) := rfl
theorem Layout.res_3_D : Layout.Statement (.res_3_D) := rfl
theorem Layout.res_3_E : Layout.Statement (.res_3_E) := rfl
theorem Layout.res_3_H : Layout.Statement (.res_3_H) := rfl
theorem Layout.res_3_L : Layout.Statement (.res_3_L) := rfl
theorem Layout.res_3_mHL : Layout.Statement (.res_3_mHL) := rfl
theorem Layout.res_3_A : Layout.Statement (.res_3_A) := rfl
theorem Layout.res_4_B : Layout.Statement (.res_4_B) := rfl
theorem Layout.res_4_C : Layout.Statement (.res_4_C) := rfl
theorem Layout.res_4_D : Layout.Statement (.res_4_D) := rfl
theorem Layout.res_4_E : Layout.Statement (.res_4_E) := rfl
theorem Layout.res_4_H : Layout.Statement (.res_4_H) := rfl
theorem Layout.res_4_L : Layout.Statement (.res_4_L) := rfl
theorem Layout.res_4_mHL : Layout.Statement (.res_4_mHL) := rfl
theorem Layout.res_4_A : Layout.Statement (.res_4_A) := rfl
theorem Layout.res_5_B : Layout.Statement (.res_5_B) := rfl
theorem Layout.res_5_C : Layout.Statement (.res_5_C) := rfl
theorem Layout.res_5_D : Layout.Statement (.res_5_D) := rfl
theorem Layout.res_5_E : Layout.Statement (.res_5_E) := rfl
theorem Layout.res_5_H : Layout.Statement (.res_5_H) := rfl
theorem Layout.res_5_L : Layout.Statement (.res_5_L) := rfl
theorem Layout.res_5_mHL : Layout.Statement (.res_5_mHL) := rfl
theorem Layout.res_5_A : Layout.Statement (.res_5_A) := rfl
theorem Layout.res_6_B : Layout.Statement (.res_6_B) := rfl
theorem Layout.res_6_C : Layout.Statement (.res_6_C) := rfl
theorem Layout.res_6_D : Layout.Statement (.res_6_D) := rfl
theorem Layout.res_6_E : Layout.Statement (.res_6_E) := rfl
theorem Layout.res_6_H : Layout.Statement (.res_6_H) := rfl
theorem Layout.res_6_L : Layout.Statement (.res_6_L) := rfl
theorem Layout.res_6_mHL : Layout.Statement (.res_6_mHL) := rfl
theorem Layout.res_6_A : Layout.Statement (.res_6_A) := rfl
theorem Layout.res_7_B : Layout.Statement (.res_7_B) := rfl
theorem Layout.res_7_C : Layout.Statement (.res_7_C) := rfl
theorem Layout.res_7_D : Layout.Statement (.res_7_D) := rfl
theorem Layout.res_7_E : Layout.Statement (.res_7_E) := rfl
theorem Layout.res_7_H : Layout.Statement (.res_7_H) := rfl
theorem Layout.res_7_L : Layout.Statement (.res_7_L) := rfl
theorem Layout.res_7_mHL : Layout.Statement (.res_7_mHL) := rfl
theorem Layout.res_7_A : Layout.Statement (.res_7_A) := rfl
theorem Layout.set_0_B : Layout.Statement (.set_0_B) := rfl
theorem Layout.set_0_C : Layout.Statement (.set_0_C) := rfl
theorem Layout.set_0_D : Layout.Statement (.set_0_D) := rfl
theorem Layout.set_0_E : Layout.Statement (.set_0_E) := rfl
theorem Layout.set_0_H : Layout.Statement (.set_0_H) := rfl
theorem Layout.set_0_L : Layout.Statement (.set_0_L) := rfl
theorem Layout.set_0_mHL : Layout.Statement (.set_0_mHL) := rfl
theorem Layout.set_0_A : Layout.Statement (.set_0_A) := rfl
theorem Layout.set_1_B : Layout.Statement (.set_1_B) := rfl
theorem Layout.set_1_C : Layout.Statement (.set_1_C) := rfl
theorem Layout.set_1_D : Layout.Statement (.set_1_D) := rfl
theorem Layout.set_1_E : Layout.Statement (.set_1_E) := rfl
theorem Layout.set_1_H : Layout.Statement (.set_1_H) := rfl
theorem Layout.set_1_L : Layout.Statement (.set_1_L) := rfl
theorem Layout.set_1_mHL : Layout.Statement (.set_1_mHL) := rfl
theorem Layout.set_1_A : Layout.Statement (.set_1_A) := rfl
theorem Layout.set_2_B : Layout.Statement (.set_2_B) := rfl
theorem Layout.set_2_C : Layout.Statement (.set_2_C) := rfl
theorem Layout.set_2_D : Layout.Statement (.set_2_D) := rfl
theorem Layout.set_2_E : Layout.Statement (.set_2_E) := rfl
theorem Layout.set_2_H : Layout.Statement (.set_2_H) := rfl
theorem Layout.set_2_L : Layout.Statement (.set_2_L) := rfl
theorem Layout.set_2_mHL : Layout.Statement (.set_2_mHL) := rfl
theorem Layout.set_2_A : Layout.Statement (.set_2_A) := rfl
theorem Layout.set_3_B : Layout.Statement (.set_3_B) := rfl
theorem Layout.set_3_C : Layout.Statement (.set_3_C) := rfl
theorem Layout.set_3_D : Layout.Statement (.set_3_D) := rfl
theorem Layout.set_3_E : Layout.Statement (.set_3_E) := rfl
theorem Layout.set_3_H : Layout.Statement (.set_3_H) := rfl
theorem Layout.set_3_L : Layout.Statement (.set_3_L) := rfl
theorem Layout.set_3_mHL : Layout.Statement (.set_3_mHL) := rfl
theorem Layout.set_3_A : Layout.Statement (.set_3_A) := rfl
theorem Layout.set_4_B : Layout.Statement (.set_4_B) := rfl
theorem Layout.set_4_C : Layout.Statement (.set_4_C) := rfl
theorem Layout.set_4_D : Layout.Statement (.set_4_D) := rfl
theorem Layout.set_4_E : Layout.Statement (.set_4_E) := rfl
theorem Layout.set_4_H : Layout.Statement (.set_4_H) := rfl
theorem Layout.set_4_L : Layout.Statement (.set_4_L) := rfl
theorem Layout.set_4_mHL : Layout.Statement (.set_4_mHL) := rfl
theorem Layout.set_4_A : Layout.Statement (.set_4_A) := rfl
theorem Layout.set_5_B : Layout.Statement (.set_5_B) := rfl
theorem Layout.set_5_C : Layout.Statement (.set_5_C) := rfl
theorem Layout.set_5_D : Layout.Statement (.set_5_D) := rfl
theorem Layout.set_5_E : Layout.Statement (.set_5_E) := rfl
theorem Layout.set_5_H : Layout.Statement (.set_5_H) := rfl
theorem Layout.set_5_L : Layout.Statement (.set_5_L) := rfl
theorem Layout.set_5_mHL : Layout.Statement (.set_5_mHL) := rfl
theorem Layout.set_5_A : Layout.Statement (.set_5_A) := rfl
theorem Layout.set_6_B : Layout.Statement (.set_6_B) := rfl
theorem Layout.set_6_C : Layout.Statement (.set_6_C) := rfl
theorem Layout.set_6_D : Layout.Statement (.set_6_D) := rfl
theorem Layout.set_6_E : Layout.Statement (.set_6_E) := rfl
theorem Layout.set_6_H : Layout.Statement (.set_6_H) := rfl
theorem Layout.set_6_L : Layout.Statement (.set_6_L) := rfl
theorem Layout.set_6_mHL : Layout.Statement (.set_6_mHL) := rfl
theorem Layout.set_6_A : Layout.Statement (.set_6_A) := rfl
theorem Layout.set_7_B : Layout.Statement (.set_7_B) := rfl
theorem Layout.set_7_C : Layout.Statement (.set_7_C) := rfl
theorem Layout.set_7_D : Layout.Statement (.set_7_D) := rfl
theorem Layout.set_7_E : Layout.Statement (.set_7_E) := rfl
theorem Layout.set_7_H : Layout.Statement (.set_7_H) := rfl
theorem Layout.set_7_L : Layout.Statement (.set_7_L) := rfl
theorem Layout.set_7_mHL : Layout.Statement (.set_7_mHL) := rfl
theorem Layout.set_7_A : Layout.Statement (.set_7_A) := rfl

end Sys2Proof.Laws
end

