-- ==== Sys2Proof/Laws/Step.lean ====
section
/-! SUPPORT. What a step can do, once: the phase that applies, and each phase's next state. -/

namespace Sys2Proof.Laws

open Sys2Proof.Machine

theorem stoppedPhase_eq (s : State) : s.stoppedPhase =
    ({ s with run := if s.input.joypadWake then .running else s.run } : State).report 4 := by
  unfold State.stoppedPhase
  split <;> rfl

theorem haltedPhase_eq (s : State) : s.haltedPhase =
    ({ s with run := if s.input.irqPending then .running else s.run } : State).report 4 := by
  unfold State.haltedPhase
  split <;> rfl

theorem acceptedRequest_eq_none {s : State} :
    s.acceptedRequest = none ↔ s.ime = false ∨ s.input.request = none := by
  unfold State.acceptedRequest
  cases s.ime <;> simp

theorem acceptedRequest_eq_some {s : State} {v : Word} :
    s.acceptedRequest = some v ↔ s.ime = true ∧ s.input.request = some v := by
  unfold State.acceptedRequest
  cases s.ime <;> simp

/-- Promotion and the taking of the input do not change what is fetched. -/
theorem fetchInstr_promoteEI_takeInput (s : State) : s.takeInput.promoteEI.fetchInstr = s.fetchInstr := by
  have h (k : Nat) : fetchAddr s.takeInput.promoteEI k = fetchAddr s k := by simp [fetchAddr]
  have r (a : Word) : s.takeInput.promoteEI.read8 a = s.read8 a := read8_congr (by simp) (by simp) a
  rw [fetchInstr_eq, fetchInstr_eq, h, h, h, r, r, r]

/-- The phases of R400, each with what makes it the one that applies. -/
theorem step_cases (s : State) :
    (∃ op addr, s.run = .locked op addr ∧ step s = .next (s.takeInput.lockedPhase op addr)) ∨
    (s.run = .stopped ∧ step s = .next s.takeInput.stoppedPhase) ∨
    (∃ v, (s.run = .running ∨ s.run = .halted) ∧ s.ime = true ∧ s.nextInput.request = some v ∧
      step s = .next (s.takeInput.dispatchInterrupt v)) ∨
    (s.run = .halted ∧ (s.ime = false ∨ s.nextInput.request = none) ∧ step s = .next s.takeInput.haltedPhase) ∨
    (s.run = .running ∧ (s.ime = false ∨ s.nextInput.request = none) ∧
      step s = exec s.fetchInstr s.takeInput.promoteEI) := by
  have hrun : s.takeInput.run = s.run := rfl
  rw [← fetchInstr_promoteEI_takeInput]
  cases h : s.run with
  | locked op addr => exact .inl ⟨op, addr, rfl, by simp only [step, runPhase, hrun, h]⟩
  | stopped => exact .inr (.inl ⟨rfl, by simp only [step, runPhase, hrun, h]⟩)
  | halted =>
    cases ha : s.takeInput.acceptedRequest with
    | some v =>
      have := acceptedRequest_eq_some.1 ha
      exact .inr (.inr (.inl ⟨v, .inr rfl, this.1, this.2, by simp only [step, runPhase, hrun, h, ha]⟩))
    | none =>
      have := acceptedRequest_eq_none.1 ha
      exact .inr (.inr (.inr (.inl ⟨rfl, this, by simp only [step, runPhase, hrun, h, ha]⟩)))
  | running =>
    cases ha : s.takeInput.acceptedRequest with
    | some v =>
      have := acceptedRequest_eq_some.1 ha
      exact .inr (.inr (.inl ⟨v, .inl rfl, this.1, this.2, by simp only [step, runPhase, hrun, h, ha]⟩))
    | none =>
      have := acceptedRequest_eq_none.1 ha
      exact .inr (.inr (.inr (.inr ⟨rfl, this, by simp only [step, runPhase, executePhase, hrun, h, ha]⟩)))

/-- The host's run takes one step at a time. -/
theorem core_run_succ {s t : State} (n : Nat) (h : step s = .next t) :
    Sys2Proof.core.run (n + 1) s = Sys2Proof.core.run n t := by
  have e : Sys2Proof.core.step s = .next t := h
  simp only [Host.Core.run, e]

end Sys2Proof.Laws
end

