-- ==== Sys2Proof/Machine/Controller.lean ====
section
/-! DEFINITION. What 60_exceptions.md R434 says the DMG's interrupt controller computes from IE and IF between
steps. The controller is a collaborator outside the core (00_scope.md R6): no step calls this file, and a machine
with another controller feeds other inputs (log 14). -/

namespace Sys2Proof.Machine

/-- IE and IF: plain cells to the core (R434; 20_memory.md R84). -/
def ieAddr : Word := 0xFFFF
def ifAddr : Word := 0xFF0F

/-- The vectors by IE/IF bit (R432). -/
def vectorOf (bit : Fin 5) : Word := BitVec.ofNat 16 (0x40 + 8 * bit.val)

namespace State

/-- The sources both enabled and flagged: `IE AND IF AND 0x1F` (R434). -/
def pendingSources (s : State) : Byte := s.read8 ieAddr &&& s.read8 ifAddr &&& 0x1F

/-- The lowest-numbered pending bit, V-blank first (R434). -/
def firstPending (s : State) : Option (Fin 5) :=
  [0, 1, 2, 3, 4].find? fun (k : Fin 5) => s.pendingSources.getLsbD k.val

/-- The input a DMG controller presents at this boundary (R434). -/
def controllerInput (joypadWake : Bool) (s : State) : StepInput :=
  { request := s.firstPending.map vectorOf
    irqPending := decide (s.pendingSources ≠ 0)
    joypadWake := joypadWake }

/-- The controller's acknowledgement after a step that accepted source `bit`: it clears that IF bit (R434). -/
def acknowledge (bit : Fin 5) (s : State) : State :=
  s.write8 ifAddr (s.read8 ifAddr &&& ~~~(1#8 <<< bit.val))

end State

end Sys2Proof.Machine
end

