-- ==== Sys2Proof/Tests/Slice0.lean ====
section
/-! SUPPORT. Tests. The words of the decode tests are the cells of the grids of 30_encoding.md R120 and R121; the expected
states of the one-step tests are rows of 95_test_vectors.md §2 (a test's name is its row and its rule); the witness
tests give, for each statement with hypotheses, values that meet them all. -/

namespace Sys2Proof.Tests

open Sys2Proof.Machine

/-! ## WellFormed -/

theorem test_bare_prefix_is_refused : WellFormed (.prefix_CB 0x37) = false := by
  decide

theorem test_a_row_is_well_formed : WellFormed .swap_A = true ∧ WellFormed .undef_DD = true := by
  decide

/-! ## Decoding: every cell of the two grids (immediates 34 12; the prefix's cell shows CB 34) -/

theorem test_decode_row_0x : [0x00, 0x01, 0x02, 0x03, 0x04, 0x05, 0x06, 0x07, 0x08, 0x09, 0x0A, 0x0B, 0x0C, 0x0D,
      0x0E, 0x0F].map (decodeBytes · 0x34 0x12) =
    [(.nop : Instr), .ld_BC_d16 0x1234, .ld_mBC_A, .inc_BC, .inc_B, .dec_B, .ld_B_d8 0x34, .rlca,
      .ld_ma16_SP 0x1234, .add_HL_BC, .ld_A_mBC, .dec_BC, .inc_C, .dec_C, .ld_C_d8 0x34, .rrca] := by
  decide

theorem test_decode_row_1x : [0x10, 0x11, 0x12, 0x13, 0x14, 0x15, 0x16, 0x17, 0x18, 0x19, 0x1A, 0x1B, 0x1C, 0x1D,
      0x1E, 0x1F].map (decodeBytes · 0x34 0x12) =
    [(.stop 0x34 : Instr), .ld_DE_d16 0x1234, .ld_mDE_A, .inc_DE, .inc_D, .dec_D, .ld_D_d8 0x34, .rla, .jr_e8 0x34,
      .add_HL_DE, .ld_A_mDE, .dec_DE, .inc_E, .dec_E, .ld_E_d8 0x34, .rra] := by
  decide

theorem test_decode_row_2x : [0x20, 0x21, 0x22, 0x23, 0x24, 0x25, 0x26, 0x27, 0x28, 0x29, 0x2A, 0x2B, 0x2C, 0x2D,
      0x2E, 0x2F].map (decodeBytes · 0x34 0x12) =
    [(.jr_NZ_e8 0x34 : Instr), .ld_HL_d16 0x1234, .ld_mHLinc_A, .inc_HL, .inc_H, .dec_H, .ld_H_d8 0x34, .daa,
      .jr_Z_e8 0x34, .add_HL_HL, .ld_A_mHLinc, .dec_HL, .inc_L, .dec_L, .ld_L_d8 0x34, .cpl] := by
  decide

theorem test_decode_row_3x : [0x30, 0x31, 0x32, 0x33, 0x34, 0x35, 0x36, 0x37, 0x38, 0x39, 0x3A, 0x3B, 0x3C, 0x3D,
      0x3E, 0x3F].map (decodeBytes · 0x34 0x12) =
    [(.jr_NC_e8 0x34 : Instr), .ld_SP_d16 0x1234, .ld_mHLdec_A, .inc_SP, .inc_mHL, .dec_mHL, .ld_mHL_d8 0x34, .scf,
      .jr_C_e8 0x34, .add_HL_SP, .ld_A_mHLdec, .dec_SP, .inc_A, .dec_A, .ld_A_d8 0x34, .ccf] := by
  decide

theorem test_decode_row_4x : [0x40, 0x41, 0x42, 0x43, 0x44, 0x45, 0x46, 0x47, 0x48, 0x49, 0x4A, 0x4B, 0x4C, 0x4D,
      0x4E, 0x4F].map (decodeBytes · 0x34 0x12) =
    [(.ld_B_B : Instr), .ld_B_C, .ld_B_D, .ld_B_E, .ld_B_H, .ld_B_L, .ld_B_mHL, .ld_B_A, .ld_C_B, .ld_C_C, .ld_C_D,
      .ld_C_E, .ld_C_H, .ld_C_L, .ld_C_mHL, .ld_C_A] := by
  decide

theorem test_decode_row_5x : [0x50, 0x51, 0x52, 0x53, 0x54, 0x55, 0x56, 0x57, 0x58, 0x59, 0x5A, 0x5B, 0x5C, 0x5D,
      0x5E, 0x5F].map (decodeBytes · 0x34 0x12) =
    [(.ld_D_B : Instr), .ld_D_C, .ld_D_D, .ld_D_E, .ld_D_H, .ld_D_L, .ld_D_mHL, .ld_D_A, .ld_E_B, .ld_E_C, .ld_E_D,
      .ld_E_E, .ld_E_H, .ld_E_L, .ld_E_mHL, .ld_E_A] := by
  decide

theorem test_decode_row_6x : [0x60, 0x61, 0x62, 0x63, 0x64, 0x65, 0x66, 0x67, 0x68, 0x69, 0x6A, 0x6B, 0x6C, 0x6D,
      0x6E, 0x6F].map (decodeBytes · 0x34 0x12) =
    [(.ld_H_B : Instr), .ld_H_C, .ld_H_D, .ld_H_E, .ld_H_H, .ld_H_L, .ld_H_mHL, .ld_H_A, .ld_L_B, .ld_L_C, .ld_L_D,
      .ld_L_E, .ld_L_H, .ld_L_L, .ld_L_mHL, .ld_L_A] := by
  decide

theorem test_decode_row_7x : [0x70, 0x71, 0x72, 0x73, 0x74, 0x75, 0x76, 0x77, 0x78, 0x79, 0x7A, 0x7B, 0x7C, 0x7D,
      0x7E, 0x7F].map (decodeBytes · 0x34 0x12) =
    [(.ld_mHL_B : Instr), .ld_mHL_C, .ld_mHL_D, .ld_mHL_E, .ld_mHL_H, .ld_mHL_L, .halt, .ld_mHL_A, .ld_A_B, .ld_A_C,
      .ld_A_D, .ld_A_E, .ld_A_H, .ld_A_L, .ld_A_mHL, .ld_A_A] := by
  decide

theorem test_decode_row_8x : [0x80, 0x81, 0x82, 0x83, 0x84, 0x85, 0x86, 0x87, 0x88, 0x89, 0x8A, 0x8B, 0x8C, 0x8D,
      0x8E, 0x8F].map (decodeBytes · 0x34 0x12) =
    [(.add_A_B : Instr), .add_A_C, .add_A_D, .add_A_E, .add_A_H, .add_A_L, .add_A_mHL, .add_A_A, .adc_A_B, .adc_A_C,
      .adc_A_D, .adc_A_E, .adc_A_H, .adc_A_L, .adc_A_mHL, .adc_A_A] := by
  decide

theorem test_decode_row_9x : [0x90, 0x91, 0x92, 0x93, 0x94, 0x95, 0x96, 0x97, 0x98, 0x99, 0x9A, 0x9B, 0x9C, 0x9D,
      0x9E, 0x9F].map (decodeBytes · 0x34 0x12) =
    [(.sub_A_B : Instr), .sub_A_C, .sub_A_D, .sub_A_E, .sub_A_H, .sub_A_L, .sub_A_mHL, .sub_A_A, .sbc_A_B, .sbc_A_C,
      .sbc_A_D, .sbc_A_E, .sbc_A_H, .sbc_A_L, .sbc_A_mHL, .sbc_A_A] := by
  decide

theorem test_decode_row_Ax : [0xA0, 0xA1, 0xA2, 0xA3, 0xA4, 0xA5, 0xA6, 0xA7, 0xA8, 0xA9, 0xAA, 0xAB, 0xAC, 0xAD,
      0xAE, 0xAF].map (decodeBytes · 0x34 0x12) =
    [(.and_A_B : Instr), .and_A_C, .and_A_D, .and_A_E, .and_A_H, .and_A_L, .and_A_mHL, .and_A_A, .xor_A_B, .xor_A_C,
      .xor_A_D, .xor_A_E, .xor_A_H, .xor_A_L, .xor_A_mHL, .xor_A_A] := by
  decide

theorem test_decode_row_Bx : [0xB0, 0xB1, 0xB2, 0xB3, 0xB4, 0xB5, 0xB6, 0xB7, 0xB8, 0xB9, 0xBA, 0xBB, 0xBC, 0xBD,
      0xBE, 0xBF].map (decodeBytes · 0x34 0x12) =
    [(.or_A_B : Instr), .or_A_C, .or_A_D, .or_A_E, .or_A_H, .or_A_L, .or_A_mHL, .or_A_A, .cp_A_B, .cp_A_C, .cp_A_D,
      .cp_A_E, .cp_A_H, .cp_A_L, .cp_A_mHL, .cp_A_A] := by
  decide

theorem test_decode_row_Cx : [0xC0, 0xC1, 0xC2, 0xC3, 0xC4, 0xC5, 0xC6, 0xC7, 0xC8, 0xC9, 0xCA, 0xCB, 0xCC, 0xCD,
      0xCE, 0xCF].map (decodeBytes · 0x34 0x12) =
    [(.ret_NZ : Instr), .pop_BC, .jp_NZ_a16 0x1234, .jp_a16 0x1234, .call_NZ_a16 0x1234, .push_BC, .add_A_d8 0x34,
      .rst_00, .ret_Z, .ret, .jp_Z_a16 0x1234, .swap_H, .call_Z_a16 0x1234, .call_a16 0x1234, .adc_A_d8 0x34,
      .rst_08] := by
  decide

theorem test_decode_row_Dx : [0xD0, 0xD1, 0xD2, 0xD3, 0xD4, 0xD5, 0xD6, 0xD7, 0xD8, 0xD9, 0xDA, 0xDB, 0xDC, 0xDD,
      0xDE, 0xDF].map (decodeBytes · 0x34 0x12) =
    [(.ret_NC : Instr), .pop_DE, .jp_NC_a16 0x1234, .undef_D3, .call_NC_a16 0x1234, .push_DE, .sub_A_d8 0x34,
      .rst_10, .ret_C, .reti, .jp_C_a16 0x1234, .undef_DB, .call_C_a16 0x1234, .undef_DD, .sbc_A_d8 0x34,
      .rst_18] := by
  decide

theorem test_decode_row_Ex : [0xE0, 0xE1, 0xE2, 0xE3, 0xE4, 0xE5, 0xE6, 0xE7, 0xE8, 0xE9, 0xEA, 0xEB, 0xEC, 0xED,
      0xEE, 0xEF].map (decodeBytes · 0x34 0x12) =
    [(.ldh_ma8_A 0x34 : Instr), .pop_HL, .ldh_mC_A, .undef_E3, .undef_E4, .push_HL, .and_A_d8 0x34, .rst_20,
      .add_SP_e8 0x34, .jp_HL, .ld_ma16_A 0x1234, .undef_EB, .undef_EC, .undef_ED, .xor_A_d8 0x34, .rst_28] := by
  decide

theorem test_decode_row_Fx : [0xF0, 0xF1, 0xF2, 0xF3, 0xF4, 0xF5, 0xF6, 0xF7, 0xF8, 0xF9, 0xFA, 0xFB, 0xFC, 0xFD,
      0xFE, 0xFF].map (decodeBytes · 0x34 0x12) =
    [(.ldh_A_ma8 0x34 : Instr), .pop_AF, .ldh_A_mC, .di, .undef_F4, .push_AF, .or_A_d8 0x34, .rst_30,
      .ld_HL_SPe8 0x34, .ld_SP_HL, .ld_A_ma16 0x1234, .ei, .undef_FC, .undef_FD, .cp_A_d8 0x34, .rst_38] := by
  decide

theorem test_decode_CB_row_0x : [0x00, 0x01, 0x02, 0x03, 0x04, 0x05, 0x06, 0x07, 0x08, 0x09, 0x0A, 0x0B, 0x0C, 0x0D,
      0x0E, 0x0F].map (decodeBytes 0xCB · 0) =
    [(.rlc_B : Instr), .rlc_C, .rlc_D, .rlc_E, .rlc_H, .rlc_L, .rlc_mHL, .rlc_A, .rrc_B, .rrc_C, .rrc_D, .rrc_E,
      .rrc_H, .rrc_L, .rrc_mHL, .rrc_A] := by
  decide

theorem test_decode_CB_row_1x : [0x10, 0x11, 0x12, 0x13, 0x14, 0x15, 0x16, 0x17, 0x18, 0x19, 0x1A, 0x1B, 0x1C, 0x1D,
      0x1E, 0x1F].map (decodeBytes 0xCB · 0) =
    [(.rl_B : Instr), .rl_C, .rl_D, .rl_E, .rl_H, .rl_L, .rl_mHL, .rl_A, .rr_B, .rr_C, .rr_D, .rr_E, .rr_H, .rr_L,
      .rr_mHL, .rr_A] := by
  decide

theorem test_decode_CB_row_2x : [0x20, 0x21, 0x22, 0x23, 0x24, 0x25, 0x26, 0x27, 0x28, 0x29, 0x2A, 0x2B, 0x2C, 0x2D,
      0x2E, 0x2F].map (decodeBytes 0xCB · 0) =
    [(.sla_B : Instr), .sla_C, .sla_D, .sla_E, .sla_H, .sla_L, .sla_mHL, .sla_A, .sra_B, .sra_C, .sra_D, .sra_E,
      .sra_H, .sra_L, .sra_mHL, .sra_A] := by
  decide

theorem test_decode_CB_row_3x : [0x30, 0x31, 0x32, 0x33, 0x34, 0x35, 0x36, 0x37, 0x38, 0x39, 0x3A, 0x3B, 0x3C, 0x3D,
      0x3E, 0x3F].map (decodeBytes 0xCB · 0) =
    [(.swap_B : Instr), .swap_C, .swap_D, .swap_E, .swap_H, .swap_L, .swap_mHL, .swap_A, .srl_B, .srl_C, .srl_D,
      .srl_E, .srl_H, .srl_L, .srl_mHL, .srl_A] := by
  decide

theorem test_decode_CB_row_4x : [0x40, 0x41, 0x42, 0x43, 0x44, 0x45, 0x46, 0x47, 0x48, 0x49, 0x4A, 0x4B, 0x4C, 0x4D,
      0x4E, 0x4F].map (decodeBytes 0xCB · 0) =
    [(.bit_0_B : Instr), .bit_0_C, .bit_0_D, .bit_0_E, .bit_0_H, .bit_0_L, .bit_0_mHL, .bit_0_A, .bit_1_B, .bit_1_C,
      .bit_1_D, .bit_1_E, .bit_1_H, .bit_1_L, .bit_1_mHL, .bit_1_A] := by
  decide

theorem test_decode_CB_row_5x : [0x50, 0x51, 0x52, 0x53, 0x54, 0x55, 0x56, 0x57, 0x58, 0x59, 0x5A, 0x5B, 0x5C, 0x5D,
      0x5E, 0x5F].map (decodeBytes 0xCB · 0) =
    [(.bit_2_B : Instr), .bit_2_C, .bit_2_D, .bit_2_E, .bit_2_H, .bit_2_L, .bit_2_mHL, .bit_2_A, .bit_3_B, .bit_3_C,
      .bit_3_D, .bit_3_E, .bit_3_H, .bit_3_L, .bit_3_mHL, .bit_3_A] := by
  decide

theorem test_decode_CB_row_6x : [0x60, 0x61, 0x62, 0x63, 0x64, 0x65, 0x66, 0x67, 0x68, 0x69, 0x6A, 0x6B, 0x6C, 0x6D,
      0x6E, 0x6F].map (decodeBytes 0xCB · 0) =
    [(.bit_4_B : Instr), .bit_4_C, .bit_4_D, .bit_4_E, .bit_4_H, .bit_4_L, .bit_4_mHL, .bit_4_A, .bit_5_B, .bit_5_C,
      .bit_5_D, .bit_5_E, .bit_5_H, .bit_5_L, .bit_5_mHL, .bit_5_A] := by
  decide

theorem test_decode_CB_row_7x : [0x70, 0x71, 0x72, 0x73, 0x74, 0x75, 0x76, 0x77, 0x78, 0x79, 0x7A, 0x7B, 0x7C, 0x7D,
      0x7E, 0x7F].map (decodeBytes 0xCB · 0) =
    [(.bit_6_B : Instr), .bit_6_C, .bit_6_D, .bit_6_E, .bit_6_H, .bit_6_L, .bit_6_mHL, .bit_6_A, .bit_7_B, .bit_7_C,
      .bit_7_D, .bit_7_E, .bit_7_H, .bit_7_L, .bit_7_mHL, .bit_7_A] := by
  decide

theorem test_decode_CB_row_8x : [0x80, 0x81, 0x82, 0x83, 0x84, 0x85, 0x86, 0x87, 0x88, 0x89, 0x8A, 0x8B, 0x8C, 0x8D,
      0x8E, 0x8F].map (decodeBytes 0xCB · 0) =
    [(.res_0_B : Instr), .res_0_C, .res_0_D, .res_0_E, .res_0_H, .res_0_L, .res_0_mHL, .res_0_A, .res_1_B, .res_1_C,
      .res_1_D, .res_1_E, .res_1_H, .res_1_L, .res_1_mHL, .res_1_A] := by
  decide

theorem test_decode_CB_row_9x : [0x90, 0x91, 0x92, 0x93, 0x94, 0x95, 0x96, 0x97, 0x98, 0x99, 0x9A, 0x9B, 0x9C, 0x9D,
      0x9E, 0x9F].map (decodeBytes 0xCB · 0) =
    [(.res_2_B : Instr), .res_2_C, .res_2_D, .res_2_E, .res_2_H, .res_2_L, .res_2_mHL, .res_2_A, .res_3_B, .res_3_C,
      .res_3_D, .res_3_E, .res_3_H, .res_3_L, .res_3_mHL, .res_3_A] := by
  decide

theorem test_decode_CB_row_Ax : [0xA0, 0xA1, 0xA2, 0xA3, 0xA4, 0xA5, 0xA6, 0xA7, 0xA8, 0xA9, 0xAA, 0xAB, 0xAC, 0xAD,
      0xAE, 0xAF].map (decodeBytes 0xCB · 0) =
    [(.res_4_B : Instr), .res_4_C, .res_4_D, .res_4_E, .res_4_H, .res_4_L, .res_4_mHL, .res_4_A, .res_5_B, .res_5_C,
      .res_5_D, .res_5_E, .res_5_H, .res_5_L, .res_5_mHL, .res_5_A] := by
  decide

theorem test_decode_CB_row_Bx : [0xB0, 0xB1, 0xB2, 0xB3, 0xB4, 0xB5, 0xB6, 0xB7, 0xB8, 0xB9, 0xBA, 0xBB, 0xBC, 0xBD,
      0xBE, 0xBF].map (decodeBytes 0xCB · 0) =
    [(.res_6_B : Instr), .res_6_C, .res_6_D, .res_6_E, .res_6_H, .res_6_L, .res_6_mHL, .res_6_A, .res_7_B, .res_7_C,
      .res_7_D, .res_7_E, .res_7_H, .res_7_L, .res_7_mHL, .res_7_A] := by
  decide

theorem test_decode_CB_row_Cx : [0xC0, 0xC1, 0xC2, 0xC3, 0xC4, 0xC5, 0xC6, 0xC7, 0xC8, 0xC9, 0xCA, 0xCB, 0xCC, 0xCD,
      0xCE, 0xCF].map (decodeBytes 0xCB · 0) =
    [(.set_0_B : Instr), .set_0_C, .set_0_D, .set_0_E, .set_0_H, .set_0_L, .set_0_mHL, .set_0_A, .set_1_B, .set_1_C,
      .set_1_D, .set_1_E, .set_1_H, .set_1_L, .set_1_mHL, .set_1_A] := by
  decide

theorem test_decode_CB_row_Dx : [0xD0, 0xD1, 0xD2, 0xD3, 0xD4, 0xD5, 0xD6, 0xD7, 0xD8, 0xD9, 0xDA, 0xDB, 0xDC, 0xDD,
      0xDE, 0xDF].map (decodeBytes 0xCB · 0) =
    [(.set_2_B : Instr), .set_2_C, .set_2_D, .set_2_E, .set_2_H, .set_2_L, .set_2_mHL, .set_2_A, .set_3_B, .set_3_C,
      .set_3_D, .set_3_E, .set_3_H, .set_3_L, .set_3_mHL, .set_3_A] := by
  decide

theorem test_decode_CB_row_Ex : [0xE0, 0xE1, 0xE2, 0xE3, 0xE4, 0xE5, 0xE6, 0xE7, 0xE8, 0xE9, 0xEA, 0xEB, 0xEC, 0xED,
      0xEE, 0xEF].map (decodeBytes 0xCB · 0) =
    [(.set_4_B : Instr), .set_4_C, .set_4_D, .set_4_E, .set_4_H, .set_4_L, .set_4_mHL, .set_4_A, .set_5_B, .set_5_C,
      .set_5_D, .set_5_E, .set_5_H, .set_5_L, .set_5_mHL, .set_5_A] := by
  decide

theorem test_decode_CB_row_Fx : [0xF0, 0xF1, 0xF2, 0xF3, 0xF4, 0xF5, 0xF6, 0xF7, 0xF8, 0xF9, 0xFA, 0xFB, 0xFC, 0xFD,
      0xFE, 0xFF].map (decodeBytes 0xCB · 0) =
    [(.set_6_B : Instr), .set_6_C, .set_6_D, .set_6_E, .set_6_H, .set_6_L, .set_6_mHL, .set_6_A, .set_7_B, .set_7_C,
      .set_7_D, .set_7_E, .set_7_H, .set_7_L, .set_7_mHL, .set_7_A] := by
  decide

/-! ## Byte lists, the table's numbering, and the placing of an instruction -/

theorem test_decode_asks_for_all_bytes :
    decode [] = .error .empty ∧ decode [0xC3, 0x50] = .error (.truncated 0xC3) ∧
      decode [0xC3, 0x50, 0x01, 0x76] = .ok (.jp_a16 0x0150, [0x76]) := by
  refine ⟨rfl, rfl, rfl⟩

theorem test_table_words :
    decodeTableWord 8 0x78 = some .ld_A_B ∧ decodeTableWord 8 0xC3 = some (.jp_a16 0) ∧
      decodeTableWord 16 0xCB37 = some .swap_A ∧ decodeTableWord 16 0x37CB = some .swap_A ∧
      decodeTableWord 16 0xCBCB = some .set_1_E := by
  decide

/-- Whether one step on the input answers a next state that passes. -/
def ran (x : StepInput) (s : State) (p : State → Bool) : Bool :=
  match stepWith x s with
  | .next t => p t
  | _ => false

theorem test_placed_word_runs_first :
    ran StepInput.empty (State.reset.withFetchWord 16 0xCB37) (fun t => decide (t.a = 0x10 ∧ t.pc = 0x0102)) = true := by
  decide

/-! ## One step each (95_test_vectors.md §2) -/

/-- The state with these bytes stored. -/
def withCells (s : State) (cells : List (Word × Byte)) : State := cells.foldl (fun s c => s.write8 c.1 c.2) s

theorem test_V_L01_R200 : ran StepInput.empty
    (withCells ({ State.reset with b := 0x5A } : State) [(0x0100, 0x78)])
    (fun t => decide (t.f = 0xB0 ∧ t.a = 0x5A ∧ t.pc = 0x0101 ∧ t.out.cycles = 4)) = true := by
  decide

theorem test_V_L03_R201 : ran StepInput.empty
    (withCells State.reset [(0x0100, 0x0E), (0x0101, 0x99)])
    (fun t => decide (t.f = 0xB0 ∧ t.c = 0x99 ∧ t.pc = 0x0102 ∧ t.out.cycles = 8)) = true := by
  decide

theorem test_V_L04_R202 : ran StepInput.empty
    (withCells ({ State.reset with h := 0xC1, l := 0x23 } : State) [(0x0100, 0x46), (0xC123, 0x77)])
    (fun t => decide (t.f = 0xB0 ∧ t.b = 0x77 ∧ t.pc = 0x0101 ∧ t.out.cycles = 8)) = true := by
  decide

theorem test_V_L06_R203 : ran StepInput.empty
    (withCells ({ State.reset with h := 0xE1, l := 0x23, b := 0x42 } : State) [(0x0100, 0x70)])
    (fun t => decide (t.f = 0xB0 ∧ t.pc = 0x0101 ∧ t.read8 0xC123 = 0x42 ∧ t.read8 0xE123 = 0x42 ∧
      t.out.cycles = 8)) = true := by
  decide

theorem test_V_L08_R204 : ran StepInput.empty
    (withCells ({ State.reset with h := 0xFE, l := 0xA0 } : State) [(0x0100, 0x36), (0x0101, 0xAB)])
    (fun t => decide (t.f = 0xB0 ∧ t.pc = 0x0102 ∧ t.read8 0xFEA0 = 0xFF ∧ t.out.cycles = 12)) = true := by
  decide

theorem test_V_L09_R205 : ran StepInput.empty
    (withCells ({ State.reset with b := 0xFF, c := 0x80 } : State) [(0x0100, 0x0A), (0xFF80, 0x3C)])
    (fun t => decide (t.f = 0xB0 ∧ t.a = 0x3C ∧ t.pc = 0x0101 ∧ t.out.cycles = 8)) = true := by
  decide

theorem test_V_L10_R208 : ran StepInput.empty
    (withCells ({ State.reset with d := 0xD0, e := 0x00, a := 0x66 } : State) [(0x0100, 0x12)])
    (fun t => decide (t.f = 0xB0 ∧ t.pc = 0x0101 ∧ t.read8 0xD000 = 0x66 ∧ t.read8 0xF000 = 0x66 ∧
      t.out.cycles = 8)) = true := by
  decide

theorem test_V_L11_R209 : ran StepInput.empty
    (withCells State.reset [(0x0100, 0xFA), (0x0101, 0x00), (0x0102, 0xE0), (0xC000, 0x5A)])
    (fun t => decide (t.f = 0xB0 ∧ t.a = 0x5A ∧ t.pc = 0x0103 ∧ t.out.cycles = 16)) = true := by
  decide

theorem test_V_L12_R210 : ran StepInput.empty
    (withCells ({ State.reset with a := 0x1F } : State) [(0x0100, 0xEA), (0x0101, 0xFF), (0x0102, 0xFF)])
    (fun t => decide (t.f = 0xB0 ∧ t.pc = 0x0103 ∧ t.read8 0xFFFF = 0x1F ∧ t.out.cycles = 16)) = true := by
  decide

theorem test_V_L13_R211 : ran StepInput.empty
    (withCells ({ State.reset with c := 0x44 } : State) [(0x0100, 0xF2), (0xFF44, 0x90)])
    (fun t => decide (t.f = 0xB0 ∧ t.a = 0x90 ∧ t.pc = 0x0101 ∧ t.out.cycles = 8)) = true := by
  decide

theorem test_V_L14_R214 : ran StepInput.empty
    (withCells ({ State.reset with a := 0x12 } : State) [(0x0100, 0xE0), (0x0101, 0x80)])
    (fun t => decide (t.f = 0xB0 ∧ t.pc = 0x0102 ∧ t.read8 0xFF80 = 0x12 ∧ t.out.cycles = 12)) = true := by
  decide

theorem test_V_L15_R215 : ran StepInput.empty
    (withCells ({ State.reset with h := 0xC0, l := 0xFF } : State) [(0x0100, 0x2A), (0xC0FF, 0x01)])
    (fun t => decide (t.f = 0xB0 ∧ t.h = 0xC1 ∧ t.l = 0x00 ∧ t.pc = 0x0101 ∧ t.out.cycles = 8)) = true := by
  decide

theorem test_V_L16_R216 : ran StepInput.empty
    (withCells ({ State.reset with h := 0x00, l := 0x00 } : State) [(0x0100, 0x3A), (0x0000, 0x31)])
    (fun t => decide (t.f = 0xB0 ∧ t.a = 0x31 ∧ t.h = 0xFF ∧ t.l = 0xFF ∧ t.pc = 0x0101 ∧
      t.out.cycles = 8)) = true := by
  decide

theorem test_V_L17_R217 : ran StepInput.empty
    (withCells ({ State.reset with h := 0xFF, l := 0xFF, a := 0x07 } : State) [(0x0100, 0x22)])
    (fun t => decide (t.f = 0xB0 ∧ t.h = 0x00 ∧ t.l = 0x00 ∧ t.pc = 0x0101 ∧ t.read8 0xFFFF = 0x07 ∧
      t.out.cycles = 8)) = true := by
  decide

theorem test_V_L18_R218 : ran StepInput.empty
    (withCells ({ State.reset with h := 0xC0, l := 0x00, a := 0x08 } : State) [(0x0100, 0x32)])
    (fun t => decide (t.f = 0xB0 ∧ t.h = 0xBF ∧ t.l = 0xFF ∧ t.pc = 0x0101 ∧ t.read8 0xC000 = 0x08 ∧
      t.out.cycles = 8)) = true := by
  decide

theorem test_V_S01_R240 : ran StepInput.empty
    (withCells State.reset [(0x0100, 0x01), (0x0101, 0x34), (0x0102, 0x12)])
    (fun t => decide (t.f = 0xB0 ∧ t.b = 0x12 ∧ t.c = 0x34 ∧ t.pc = 0x0103 ∧ t.out.cycles = 12)) = true := by
  decide

theorem test_V_S03_R241 : ran StepInput.empty
    (withCells ({ State.reset with sp := 0xABCD } : State) [(0x0100, 0x08), (0x0101, 0x00), (0x0102, 0xC0)])
    (fun t => decide (t.f = 0xB0 ∧ t.pc = 0x0103 ∧ t.read8 0xC000 = 0xCD ∧ t.read8 0xC001 = 0xAB ∧
      t.out.cycles = 20)) = true := by
  decide

theorem test_V_S05_R242 : ran StepInput.empty
    (withCells ({ State.reset with h := 0xDF, l := 0xF0 } : State) [(0x0100, 0xF9)])
    (fun t => decide (t.f = 0xB0 ∧ t.sp = 0xDFF0 ∧ t.pc = 0x0101 ∧ t.out.cycles = 8)) = true := by
  decide

theorem test_V_S06_R243 : ran StepInput.empty
    (withCells ({ State.reset with sp := 0xFFF8 } : State) [(0x0100, 0xF8), (0x0101, 0x02)])
    (fun t => decide (t.f = 0x00 ∧ t.h = 0xFF ∧ t.l = 0xFA ∧ t.pc = 0x0102 ∧ t.out.cycles = 12)) = true := by
  decide

theorem test_V_S09_R244 : ran StepInput.empty
    (withCells ({ State.reset with sp := 0xFFFE, b := 0x12, c := 0x34 } : State) [(0x0100, 0xC5)])
    (fun t => decide (t.f = 0xB0 ∧ t.sp = 0xFFFC ∧ t.pc = 0x0101 ∧ t.read8 0xFFFD = 0x12 ∧ t.read8 0xFFFC = 0x34 ∧
      t.out.cycles = 16)) = true := by
  decide

theorem test_V_S12_R245 : ran StepInput.empty
    (withCells ({ State.reset with sp := 0xFFFC } : State) [(0x0100, 0xD1), (0xFFFC, 0x34), (0xFFFD, 0x12)])
    (fun t => decide (t.f = 0xB0 ∧ t.d = 0x12 ∧ t.e = 0x34 ∧ t.sp = 0xFFFE ∧ t.pc = 0x0101 ∧
      t.out.cycles = 12)) = true := by
  decide

theorem test_V_A01_R260 : ran StepInput.empty
    (withCells ({ State.reset with a := 0x3C, b := 0x12 } : State) [(0x0100, 0x80)])
    (fun t => decide (t.f = 0x00 ∧ t.a = 0x4E ∧ t.pc = 0x0101 ∧ t.out.cycles = 4)) = true := by
  decide

theorem test_V_A03_R261 : ran StepInput.empty
    (withCells ({ State.reset with a := 0x0F, h := 0xC0, l := 0x00 } : State) [(0x0100, 0x86), (0xC000, 0x01)])
    (fun t => decide (t.f = 0x20 ∧ t.a = 0x10 ∧ t.pc = 0x0101 ∧ t.out.cycles = 8)) = true := by
  decide

theorem test_V_A04_R262 : ran StepInput.empty
    (withCells ({ State.reset with a := 0xFF } : State) [(0x0100, 0xC6), (0x0101, 0x01)])
    (fun t => decide (t.f = 0xB0 ∧ t.a = 0x00 ∧ t.pc = 0x0102 ∧ t.out.cycles = 8)) = true := by
  decide

theorem test_V_A05_R263 : ran StepInput.empty
    (withCells ({ State.reset with a := 0x0E, b := 0x01, f := 0x10 } : State) [(0x0100, 0x88)])
    (fun t => decide (t.f = 0x20 ∧ t.a = 0x10 ∧ t.pc = 0x0101 ∧ t.out.cycles = 4)) = true := by
  decide

theorem test_V_A06_R265 : ran StepInput.empty
    (withCells ({ State.reset with a := 0x00, f := 0x10 } : State) [(0x0100, 0xCE), (0x0101, 0xFF)])
    (fun t => decide (t.f = 0xB0 ∧ t.pc = 0x0102 ∧ t.out.cycles = 8)) = true := by
  decide

theorem test_V_A07_R266 : ran StepInput.empty
    (withCells ({ State.reset with a := 0x3E, b := 0x3E } : State) [(0x0100, 0x90)])
    (fun t => decide (t.f = 0xC0 ∧ t.a = 0x00 ∧ t.pc = 0x0101 ∧ t.out.cycles = 4)) = true := by
  decide

theorem test_V_A08_R268 : ran StepInput.empty
    (withCells ({ State.reset with a := 0x3E } : State) [(0x0100, 0xD6), (0x0101, 0x0F)])
    (fun t => decide (t.f = 0x60 ∧ t.a = 0x2F ∧ t.pc = 0x0102 ∧ t.out.cycles = 8)) = true := by
  decide

theorem test_V_A10_R269 : ran StepInput.empty
    (withCells ({ State.reset with a := 0x3B, b := 0x2A, f := 0x10 } : State) [(0x0100, 0x98)])
    (fun t => decide (t.f = 0x40 ∧ t.a = 0x10 ∧ t.pc = 0x0101 ∧ t.out.cycles = 4)) = true := by
  decide

theorem test_V_A11_R271 : ran StepInput.empty
    (withCells ({ State.reset with a := 0x00, f := 0x10 } : State) [(0x0100, 0xDE), (0x0101, 0x00)])
    (fun t => decide (t.f = 0x70 ∧ t.a = 0xFF ∧ t.pc = 0x0102 ∧ t.out.cycles = 8)) = true := by
  decide

theorem test_V_A12_R272 : ran StepInput.empty
    (withCells ({ State.reset with a := 0x5A, b := 0x3F } : State) [(0x0100, 0xA0)])
    (fun t => decide (t.f = 0x20 ∧ t.a = 0x1A ∧ t.pc = 0x0101 ∧ t.out.cycles = 4)) = true := by
  decide

theorem test_V_A13_R274 : ran StepInput.empty
    (withCells ({ State.reset with a := 0xFF, f := 0x10 } : State) [(0x0100, 0xE6), (0x0101, 0x00)])
    (fun t => decide (t.f = 0xA0 ∧ t.a = 0x00 ∧ t.pc = 0x0102 ∧ t.out.cycles = 8)) = true := by
  decide

theorem test_V_A14_R275 : ran StepInput.empty
    (withCells ({ State.reset with a := 0x5A, f := 0x70 } : State) [(0x0100, 0xAF)])
    (fun t => decide (t.f = 0x80 ∧ t.a = 0x00 ∧ t.pc = 0x0101 ∧ t.out.cycles = 4)) = true := by
  decide

theorem test_V_A15_R278 : ran StepInput.empty
    (withCells ({ State.reset with a := 0x5A, c := 0x0F } : State) [(0x0100, 0xB1)])
    (fun t => decide (t.f = 0x00 ∧ t.a = 0x5F ∧ t.pc = 0x0101 ∧ t.out.cycles = 4)) = true := by
  decide

theorem test_V_A16_R281 : ran StepInput.empty
    (withCells ({ State.reset with a := 0x3C, b := 0x3C } : State) [(0x0100, 0xB8)])
    (fun t => decide (t.f = 0xC0 ∧ t.pc = 0x0101 ∧ t.out.cycles = 4)) = true := by
  decide

theorem test_V_A17_R283 : ran StepInput.empty
    (withCells ({ State.reset with a := 0x3C } : State) [(0x0100, 0xFE), (0x0101, 0x40)])
    (fun t => decide (t.f = 0x50 ∧ t.pc = 0x0102 ∧ t.out.cycles = 8)) = true := by
  decide

theorem test_V_A18_R282 : ran StepInput.empty
    (withCells ({ State.reset with a := 0x10, h := 0xC0, l := 0x00 } : State) [(0x0100, 0xBE), (0xC000, 0x01)])
    (fun t => decide (t.f = 0x60 ∧ t.pc = 0x0101 ∧ t.out.cycles = 8)) = true := by
  decide

theorem test_V_A19_R284 : ran StepInput.empty
    (withCells ({ State.reset with a := 0xFF, f := 0x10 } : State) [(0x0100, 0x3C)])
    (fun t => decide (t.f = 0xB0 ∧ t.a = 0x00 ∧ t.pc = 0x0101 ∧ t.out.cycles = 4)) = true := by
  decide

theorem test_V_A21_R285 : ran StepInput.empty
    (withCells ({ State.reset with h := 0xC0, l := 0x00 } : State) [(0x0100, 0x34), (0xC000, 0x7F)])
    (fun t => decide (t.f = 0x30 ∧ t.pc = 0x0101 ∧ t.read8 0xC000 = 0x80 ∧ t.out.cycles = 12)) = true := by
  decide

theorem test_V_A22_R286 : ran StepInput.empty
    (withCells ({ State.reset with b := 0x01, f := 0x10 } : State) [(0x0100, 0x05)])
    (fun t => decide (t.f = 0xD0 ∧ t.b = 0x00 ∧ t.pc = 0x0101 ∧ t.out.cycles = 4)) = true := by
  decide

theorem test_V_A24_R287 : ran StepInput.empty
    (withCells ({ State.reset with h := 0xC0, l := 0x00 } : State) [(0x0100, 0x35), (0xC000, 0x10)])
    (fun t => decide (t.f = 0x70 ∧ t.pc = 0x0101 ∧ t.read8 0xC000 = 0x0F ∧ t.out.cycles = 12)) = true := by
  decide

theorem test_V_A25_R288 : ran StepInput.empty
    (withCells ({ State.reset with a := 0x7D, f := 0x00 } : State) [(0x0100, 0x27)])
    (fun t => decide (t.f = 0x00 ∧ t.a = 0x83 ∧ t.pc = 0x0101 ∧ t.out.cycles = 4)) = true := by
  decide

theorem test_V_A26_R288 : ran StepInput.empty
    (withCells ({ State.reset with a := 0x9A, f := 0x00 } : State) [(0x0100, 0x27)])
    (fun t => decide (t.f = 0x90 ∧ t.a = 0x00 ∧ t.pc = 0x0101 ∧ t.out.cycles = 4)) = true := by
  decide

theorem test_V_A29_R289 : ran StepInput.empty
    (withCells ({ State.reset with a := 0x35, f := 0x90 } : State) [(0x0100, 0x2F)])
    (fun t => decide (t.f = 0xF0 ∧ t.a = 0xCA ∧ t.pc = 0x0101 ∧ t.out.cycles = 4)) = true := by
  decide

theorem test_V_A30_R290 : ran StepInput.empty
    (withCells ({ State.reset with f := 0xE0 } : State) [(0x0100, 0x37)])
    (fun t => decide (t.f = 0x90 ∧ t.pc = 0x0101 ∧ t.out.cycles = 4)) = true := by
  decide

theorem test_V_A31_R291 : ran StepInput.empty
    (withCells ({ State.reset with f := 0x70 } : State) [(0x0100, 0x3F)])
    (fun t => decide (t.f = 0x00 ∧ t.pc = 0x0101 ∧ t.out.cycles = 4)) = true := by
  decide

theorem test_V_W01_R300 : ran StepInput.empty
    (withCells ({ State.reset with h := 0x8A, l := 0x23, b := 0x06, c := 0x05, f := 0x80 } : State) [(0x0100, 0x09)])
    (fun t => decide (t.f = 0xA0 ∧ t.h = 0x90 ∧ t.l = 0x28 ∧ t.pc = 0x0101 ∧ t.out.cycles = 8)) = true := by
  decide

theorem test_V_W04_R301 : ran StepInput.empty
    (withCells ({ State.reset with d := 0xFF, e := 0xFF, f := 0x00 } : State) [(0x0100, 0x13)])
    (fun t => decide (t.f = 0x00 ∧ t.d = 0x00 ∧ t.e = 0x00 ∧ t.pc = 0x0101 ∧ t.out.cycles = 8)) = true := by
  decide

theorem test_V_W05_R302 : ran StepInput.empty
    (withCells ({ State.reset with b := 0x00, c := 0x00, f := 0x00 } : State) [(0x0100, 0x0B)])
    (fun t => decide (t.f = 0x00 ∧ t.b = 0xFF ∧ t.c = 0xFF ∧ t.pc = 0x0101 ∧ t.out.cycles = 8)) = true := by
  decide

theorem test_V_W06_R303 : ran StepInput.empty
    (withCells ({ State.reset with sp := 0xFFF8 } : State) [(0x0100, 0xE8), (0x0101, 0xFE)])
    (fun t => decide (t.f = 0x30 ∧ t.sp = 0xFFF6 ∧ t.pc = 0x0102 ∧ t.out.cycles = 16)) = true := by
  decide

theorem test_V_R01_R320 : ran StepInput.empty
    (withCells ({ State.reset with a := 0x85, f := 0x00 } : State) [(0x0100, 0x07)])
    (fun t => decide (t.f = 0x10 ∧ t.a = 0x0B ∧ t.pc = 0x0101 ∧ t.out.cycles = 4)) = true := by
  decide

theorem test_V_R03_R321 : ran StepInput.empty
    (withCells ({ State.reset with a := 0x01, f := 0x00 } : State) [(0x0100, 0x0F)])
    (fun t => decide (t.f = 0x10 ∧ t.a = 0x80 ∧ t.pc = 0x0101 ∧ t.out.cycles = 4)) = true := by
  decide

theorem test_V_R04_R322 : ran StepInput.empty
    (withCells ({ State.reset with a := 0x80, f := 0x00 } : State) [(0x0100, 0x17)])
    (fun t => decide (t.f = 0x10 ∧ t.a = 0x00 ∧ t.pc = 0x0101 ∧ t.out.cycles = 4)) = true := by
  decide

theorem test_V_R05_R323 : ran StepInput.empty
    (withCells ({ State.reset with a := 0x85, f := 0x10 } : State) [(0x0100, 0x1F)])
    (fun t => decide (t.f = 0x10 ∧ t.a = 0xC2 ∧ t.pc = 0x0101 ∧ t.out.cycles = 4)) = true := by
  decide

theorem test_V_R06_R324 : ran StepInput.empty
    (withCells ({ State.reset with b := 0x00, f := 0x10 } : State) [(0x0100, 0xCB), (0x0101, 0x00)])
    (fun t => decide (t.f = 0x80 ∧ t.pc = 0x0102 ∧ t.out.cycles = 8)) = true := by
  decide

theorem test_V_R07_R325 : ran StepInput.empty
    (withCells ({ State.reset with h := 0xC0, l := 0x00, f := 0x00 } : State) [(0x0100, 0xCB), (0x0101, 0x06),
      (0xC000, 0x80)])
    (fun t => decide (t.f = 0x10 ∧ t.pc = 0x0102 ∧ t.read8 0xC000 = 0x01 ∧ t.out.cycles = 16)) = true := by
  decide

theorem test_V_R08_R326 : ran StepInput.empty
    (withCells ({ State.reset with c := 0x01, f := 0x00 } : State) [(0x0100, 0xCB), (0x0101, 0x09)])
    (fun t => decide (t.f = 0x10 ∧ t.c = 0x80 ∧ t.pc = 0x0102 ∧ t.out.cycles = 8)) = true := by
  decide

theorem test_V_R09_R328 : ran StepInput.empty
    (withCells ({ State.reset with d := 0x80, f := 0x00 } : State) [(0x0100, 0xCB), (0x0101, 0x12)])
    (fun t => decide (t.f = 0x90 ∧ t.d = 0x00 ∧ t.pc = 0x0102 ∧ t.out.cycles = 8)) = true := by
  decide

theorem test_V_R10_R330 : ran StepInput.empty
    (withCells ({ State.reset with e := 0x01, f := 0x00 } : State) [(0x0100, 0xCB), (0x0101, 0x1B)])
    (fun t => decide (t.f = 0x90 ∧ t.e = 0x00 ∧ t.pc = 0x0102 ∧ t.out.cycles = 8)) = true := by
  decide

theorem test_V_R11_R332 : ran StepInput.empty
    (withCells ({ State.reset with a := 0x80, f := 0x00 } : State) [(0x0100, 0xCB), (0x0101, 0x27)])
    (fun t => decide (t.f = 0x90 ∧ t.a = 0x00 ∧ t.pc = 0x0102 ∧ t.out.cycles = 8)) = true := by
  decide

theorem test_V_R12_R334 : ran StepInput.empty
    (withCells ({ State.reset with h := 0x81, f := 0x00 } : State) [(0x0100, 0xCB), (0x0101, 0x2C)])
    (fun t => decide (t.f = 0x10 ∧ t.h = 0xC0 ∧ t.pc = 0x0102 ∧ t.out.cycles = 8)) = true := by
  decide

theorem test_V_R13_R336 : ran StepInput.empty
    (withCells ({ State.reset with a := 0x00, f := 0x10 } : State) [(0x0100, 0xCB), (0x0101, 0x37)])
    (fun t => decide (t.f = 0x80 ∧ t.pc = 0x0102 ∧ t.out.cycles = 8)) = true := by
  decide

theorem test_V_R14_R337 : ran StepInput.empty
    (withCells ({ State.reset with h := 0xC0, l := 0x00, f := 0x00 } : State) [(0x0100, 0xCB), (0x0101, 0x36),
      (0xC000, 0xF0)])
    (fun t => decide (t.f = 0x00 ∧ t.pc = 0x0102 ∧ t.read8 0xC000 = 0x0F ∧ t.out.cycles = 16)) = true := by
  decide

theorem test_V_R15_R338 : ran StepInput.empty
    (withCells ({ State.reset with a := 0x01, f := 0x00 } : State) [(0x0100, 0xCB), (0x0101, 0x3F)])
    (fun t => decide (t.f = 0x90 ∧ t.a = 0x00 ∧ t.pc = 0x0102 ∧ t.out.cycles = 8)) = true := by
  decide

theorem test_V_R16_R339 : ran StepInput.empty
    (withCells ({ State.reset with h := 0xFE, l := 0xA0, f := 0x00 } : State) [(0x0100, 0xCB), (0x0101, 0x3E)])
    (fun t => decide (t.f = 0x10 ∧ t.pc = 0x0102 ∧ t.read8 0xFEA0 = 0xFF ∧ t.out.cycles = 16)) = true := by
  decide

theorem test_V_R17_R340 : ran StepInput.empty
    (withCells ({ State.reset with a := 0x80, f := 0x10 } : State) [(0x0100, 0xCB), (0x0101, 0x7F)])
    (fun t => decide (t.f = 0x30 ∧ t.pc = 0x0102 ∧ t.out.cycles = 8)) = true := by
  decide

theorem test_V_R19_R341 : ran StepInput.empty
    (withCells ({ State.reset with h := 0xC0, l := 0x00, f := 0x00 } : State) [(0x0100, 0xCB), (0x0101, 0x5E),
      (0xC000, 0x00)])
    (fun t => decide (t.f = 0xA0 ∧ t.pc = 0x0102 ∧ t.out.cycles = 12)) = true := by
  decide

theorem test_V_R20_R342 : ran StepInput.empty
    (withCells ({ State.reset with b := 0xFF, f := 0x00 } : State) [(0x0100, 0xCB), (0x0101, 0x80)])
    (fun t => decide (t.f = 0x00 ∧ t.b = 0xFE ∧ t.pc = 0x0102 ∧ t.out.cycles = 8)) = true := by
  decide

theorem test_V_R21_R343 : ran StepInput.empty
    (withCells ({ State.reset with h := 0xC0, l := 0x00, f := 0xF0 } : State) [(0x0100, 0xCB), (0x0101, 0xBE),
      (0xC000, 0x81)])
    (fun t => decide (t.f = 0xF0 ∧ t.pc = 0x0102 ∧ t.read8 0xC000 = 0x01 ∧ t.out.cycles = 16)) = true := by
  decide

theorem test_V_R22_R344 : ran StepInput.empty
    (withCells ({ State.reset with a := 0x00, f := 0x00 } : State) [(0x0100, 0xCB), (0x0101, 0xFF)])
    (fun t => decide (t.f = 0x00 ∧ t.a = 0x80 ∧ t.pc = 0x0102 ∧ t.out.cycles = 8)) = true := by
  decide

theorem test_V_R23_R345 : ran StepInput.empty
    (withCells ({ State.reset with h := 0xC0, l := 0x00, f := 0x00 } : State) [(0x0100, 0xCB), (0x0101, 0xC6),
      (0xC000, 0x00)])
    (fun t => decide (t.f = 0x00 ∧ t.pc = 0x0102 ∧ t.read8 0xC000 = 0x01 ∧ t.out.cycles = 16)) = true := by
  decide

theorem test_V_C01_R360 : ran StepInput.empty
    (withCells State.reset [(0x0100, 0xC3), (0x0101, 0x50), (0x0102, 0x01)])
    (fun t => decide (t.f = 0xB0 ∧ t.pc = 0x0150 ∧ t.out.cycles = 16)) = true := by
  decide

theorem test_V_C02_R361 : ran StepInput.empty
    (withCells ({ State.reset with f := 0x80 } : State) [(0x0100, 0xCA), (0x0101, 0x00), (0x0102, 0x02)])
    (fun t => decide (t.f = 0x80 ∧ t.pc = 0x0200 ∧ t.out.cycles = 16)) = true := by
  decide

theorem test_V_C05_R362 : ran StepInput.empty
    (withCells ({ State.reset with h := 0x40, l := 0x00 } : State) [(0x0100, 0xE9)])
    (fun t => decide (t.f = 0xB0 ∧ t.pc = 0x4000 ∧ t.out.cycles = 4)) = true := by
  decide

theorem test_V_C06_R363 : ran StepInput.empty
    (withCells State.reset [(0x0100, 0x18), (0x0101, 0xFE)])
    (fun t => decide (t.f = 0xB0 ∧ t.out.cycles = 12)) = true := by
  decide

theorem test_V_C09_R364 : ran StepInput.empty
    (withCells ({ State.reset with f := 0x00, pc := 0x0105 } : State) [(0x0105, 0x20), (0x0106, 0xFC)])
    (fun t => decide (t.f = 0x00 ∧ t.pc = 0x0103 ∧ t.out.cycles = 12)) = true := by
  decide

theorem test_V_C13_R365 : ran StepInput.empty
    (withCells ({ State.reset with sp := 0xFFFE, pc := 0x0105 } : State) [(0x0105, 0xCD), (0x0106, 0x10), (0x0107,
      0x01)])
    (fun t => decide (t.f = 0xB0 ∧ t.sp = 0xFFFC ∧ t.pc = 0x0110 ∧ t.read8 0xFFFD = 0x01 ∧ t.read8 0xFFFC = 0x08 ∧
      t.out.cycles = 24)) = true := by
  decide

theorem test_V_C14_R366 : ran StepInput.empty
    (withCells ({ State.reset with f := 0x00 } : State) [(0x0100, 0xDC), (0x0101, 0x00), (0x0102, 0x20)])
    (fun t => decide (t.f = 0x00 ∧ t.pc = 0x0103 ∧ t.out.cycles = 12)) = true := by
  decide

theorem test_V_C16_R367 : ran StepInput.empty
    (withCells ({ State.reset with sp := 0xFFFC } : State) [(0x0100, 0xC9), (0xFFFC, 0x08), (0xFFFD, 0x01)])
    (fun t => decide (t.f = 0xB0 ∧ t.sp = 0xFFFE ∧ t.pc = 0x0108 ∧ t.out.cycles = 16)) = true := by
  decide

theorem test_V_C17_R368 : ran StepInput.empty
    (withCells ({ State.reset with sp := 0xFFFC, f := 0x80 } : State) [(0x0100, 0xC8), (0xFFFC, 0x08), (0xFFFD,
      0x01)])
    (fun t => decide (t.f = 0x80 ∧ t.sp = 0xFFFE ∧ t.pc = 0x0108 ∧ t.out.cycles = 20)) = true := by
  decide

theorem test_V_C19_R369 : ran StepInput.empty
    (withCells ({ State.reset with sp := 0xFFFC } : State) [(0x0100, 0xD9), (0xFFFC, 0x02), (0xFFFD, 0x01)])
    (fun t => decide (t.f = 0xB0 ∧ t.sp = 0xFFFE ∧ t.pc = 0x0102 ∧ t.ime = true ∧ t.out.cycles = 16 ∧
      t.out.reti = true)) = true := by
  decide

theorem test_V_C20_R370 : ran StepInput.empty
    (withCells ({ State.reset with sp := 0xFFFE, pc := 0x0200 } : State) [(0x0200, 0xEF)])
    (fun t => decide (t.f = 0xB0 ∧ t.sp = 0xFFFC ∧ t.pc = 0x0028 ∧ t.read8 0xFFFD = 0x02 ∧ t.read8 0xFFFC = 0x01 ∧
      t.out.cycles = 16)) = true := by
  decide

theorem test_V_Y01_R390 : ran StepInput.empty
    (withCells State.reset [(0x0100, 0x00)])
    (fun t => decide (t.f = 0xB0 ∧ t.pc = 0x0101 ∧ t.out.cycles = 4)) = true := by
  decide

theorem test_V_Y03_R391 : ran StepInput.empty
    (withCells State.reset [(0x0100, 0x76)])
    (fun t => decide (t.f = 0xB0 ∧ t.pc = 0x0101 ∧ t.run = .halted ∧ t.out.cycles = 4)) = true := by
  decide

theorem test_V_Y04_R391 : ran ({ request := none, irqPending := true, joypadWake := false })
    (withCells State.reset [(0x0100, 0x76)])
    (fun t => decide (t.f = 0xB0 ∧ t.pc = 0x0101 ∧ t.haltBug = true ∧ t.out.cycles = 4)) = true := by
  decide

theorem test_V_Y05_R392 : ran StepInput.empty
    (withCells State.reset [(0x0100, 0x10), (0x0101, 0x00)])
    (fun t => decide (t.f = 0xB0 ∧ t.pc = 0x0102 ∧ t.run = .stopped ∧ t.out.cycles = 4)) = true := by
  decide

theorem test_V_Y06_R393 : ran StepInput.empty
    (withCells ({ State.reset with ime := true } : State) [(0x0100, 0xF3)])
    (fun t => decide (t.f = 0xB0 ∧ t.pc = 0x0101 ∧ t.ime = false ∧ t.out.cycles = 4)) = true := by
  decide

theorem test_V_Y07_R394 : ran StepInput.empty
    (withCells State.reset [(0x0100, 0xFB)])
    (fun t => decide (t.f = 0xB0 ∧ t.pc = 0x0101 ∧ t.eiPending = true ∧ t.out.cycles = 4)) = true := by
  decide

theorem test_V_Y10_R395 : ran StepInput.empty
    (withCells ({ State.reset with a := 0x12 } : State) [(0x0100, 0xCB), (0x0101, 0x37)])
    (fun t => decide (t.f = 0x00 ∧ t.a = 0x21 ∧ t.pc = 0x0102 ∧ t.out.cycles = 8)) = true := by
  decide

theorem test_V_Y11_R396 : ran StepInput.empty
    (withCells ({ State.reset with pc := 0x0107 } : State) [(0x0107, 0xDD)])
    (fun t => decide (t.f = 0xB0 ∧ t.run = (.locked 0xDD 0x0107) ∧ t.out.cycles = 4 ∧ t.out.illegal = some (0xDD,
      0x0107))) = true := by
  decide

theorem test_V_Y13_R400 : ran ({ request := (some 0x0050), irqPending := true, joypadWake := false })
    (withCells ({ State.reset with ime := true } : State) [(0x0100, 0x00)])
    (fun t => decide (t.f = 0xB0 ∧ t.sp = 0xFFFC ∧ t.pc = 0x0050 ∧ t.ime = false ∧ t.out.cycles = 20 ∧
      t.out.accepted = true)) = true := by
  decide

theorem test_V_Y14_R400 : ran ({ request := (some 0x0050), irqPending := true, joypadWake := false })
    (withCells State.reset [(0x0100, 0x00)])
    (fun t => decide (t.f = 0xB0 ∧ t.pc = 0x0101 ∧ t.out.cycles = 4)) = true := by
  decide

/-! ## Witnesses: values that meet the hypotheses of the statements -/

/-- Reset with these bytes at the entry point. -/
def program (bytes : List Byte) : State := State.reset.storeBytes 0x0100 bytes

/-- Reset with a locked core. -/
def lockedState : State := { State.reset with run := .locked 0xDD 0x0107 }

/-- Interrupts on, a request waiting. -/
def requested (r : Run) : State :=
  { State.reset with ime := true, run := r, inputs := [{ request := some 0x0040, irqPending := true, joypadWake := false }] }

theorem test_witness_DecodeOfEncodeIsTheInstruction : WellFormed (.ld_mHL_d8 0xFF) = true := by
  decide

theorem test_witness_ElevenOpcodesAreUndefined_decoded :
    decodeBytes 0xD3 0xFF 0xFF = Family.undef .opD3 ∧ decodeBytes 0xFD 0 0 = Family.undef .opFD := by
  decide

theorem test_witness_ElevenOpcodesAreUndefined_listed :
    isUndefinedByte 0xD3 = true ∧ isUndefinedByte 0xFD = true ∧ isUndefinedByte 0x00 = false ∧
      isUndefinedByte 0xCB = false := by
  decide

theorem test_witness_StepRunsTheInstructionAtPC :
    (program [0x3E, 0x5A]).run = .running ∧ (program [0x3E, 0x5A]).ime = false ∧ WellFormed (.ld_A_d8 0x5A) = true ∧
      ∀ k b, (encode (.ld_A_d8 0x5A))[k]? = some b → (program [0x3E, 0x5A]).read8 (fetchAddr (program [0x3E, 0x5A]) k) = b := by
  refine ⟨rfl, rfl, rfl, ?_⟩
  intro k b h
  match k, h with
  | 0, h => cases h; decide
  | 1, h => cases h; decide

theorem test_witness_StepRunsTheInstructionAtPC_halt_bug (s : State)
    (hs : s = { program [0x3E, 0x14] with haltBug := true, ime := true }) :
    s.run = .running ∧ (s.inputs.headD StepInput.empty).request = none ∧ WellFormed (.ld_A_d8 0x3E) = true ∧
      s.read8 (fetchAddr s 0) = 0x3E ∧ s.read8 (fetchAddr s 1) = 0x3E := by
  subst hs; decide

theorem test_witness_LockedCoreIdlesForEver : lockedState.run = .locked 0xDD 0x0107 := by
  decide

theorem test_witness_WaitingCoreIdles_stopped : (requested .stopped).run = .stopped := by
  decide

theorem test_witness_WaitingCoreIdles_halted :
    ({ State.reset with run := .halted } : State).run = .halted ∧ State.reset.ime = false := by
  decide

theorem test_witness_DispatchPushesPCAndJumps :
    (requested .halted).run = .halted ∧ (requested .running).run = .running ∧ (requested .halted).ime = true ∧
      ((requested .halted).inputs.headD StepInput.empty).request = some 0x0040 := by
  decide

theorem test_witness_EventsAreReportedWhereTheyHappen_dispatch :
    step (requested .running) = .next ((requested .running).takeInput.dispatchInterrupt 0x0040) := by
  rfl

theorem test_witness_EventsAreReportedWhereTheyHappen_reti :
    (ran StepInput.empty (program [0xD9]) fun t => t.out.reti && !t.out.accepted) = true := by
  decide

theorem test_witness_EventsAreReportedWhereTheyHappen_locked :
    step lockedState = .next (lockedState.takeInput.lockedPhase 0xDD 0x0107) ∧
      lockedState.cfg.illegalPolicy = .lock := by
  exact ⟨rfl, rfl⟩

theorem test_witness_CyclesArePositiveMultiplesOfFour :
    State.reset.cfg.cycleUnit = .tCycles ∧ (ran StepInput.empty State.reset fun t => t.out.cycles == 4) = true := by
  decide

theorem test_witness_StepKeepsInvariant_state : Inv State.reset :=
  ⟨by decide, by decide, by decide, by decide, by intro op addr h; cases h⟩

theorem test_witness_StepKeepsInvariant_locked (s : State) (hs : s = { program [0xDD] with run := .locked 0xDD 0x0100 }) :
    Inv s ∧ ∃ t, step s = .next t := by
  subst hs
  refine ⟨⟨by decide, by decide, by decide, by decide, ?_⟩, ⟨_, rfl⟩⟩
  intro op addr h
  cases h
  decide

theorem test_witness_HarnessWritesMaskF : State.reset.f &&& 0x0F = 0 ∧ State.reset.mem.wf = true := by
  decide

theorem test_witness_FlagsColumnHolds : WellFormed .scf = true ∧
    exec .scf State.reset = .next (((State.reset.passBytes 1).applyFlags scfRec).report 4) := ⟨rfl, rfl⟩

theorem test_witness_CycleTablesHold : WellFormed (.jr_NC_e8 2) = true ∧
    exec (.jr_NC_e8 2) State.reset = .next ((State.reset.passBytes 2).report 8) := ⟨rfl, rfl⟩

/-- Reset's Z is 1; with F = 0 it is 0. -/
theorem test_witness_FalseConditionIsCheaper (s' : State) (hs : s' = { State.reset with f := 0 }) :
    (encode (.jr_NZ_e8 5)).head? = some 0x20 ∧ conditionOf 0x20 = some .nz ∧ State.reset.cfg = s'.cfg ∧
      State.reset.cond .nz = false ∧ s'.cond .nz = true ∧ (∃ t, exec (.jr_NZ_e8 5) State.reset = .next t) ∧
      ∃ t, exec (.jr_NZ_e8 5) s' = .next t := by
  subst hs
  exact ⟨by decide, by decide, rfl, by decide, by decide, ⟨_, rfl⟩, ⟨_, rfl⟩⟩

theorem test_witness_OnlyDiAndRetiWriteIme (s : State) (hs : s = { State.reset with ime := true, eiPending := true }) :
    ∃ t, exec .di s = .next t ∧ t.ime ≠ s.ime ∧ t.eiPending ≠ s.eiPending := by
  subst hs
  exact ⟨_, rfl, by decide, by decide⟩

theorem test_witness_OnlyTheMapsWritersWriteMemoryAndSP :
    writesMemory .nop = false ∧ movesSP .nop = false ∧ ∃ t, exec .nop State.reset = .next t :=
  ⟨rfl, rfl, ⟨_, rfl⟩⟩

theorem test_witness_EiTakesEffectAfterTheNextInstruction (s : State) (hs : s = program [0xFB, 0xF3]) :
    s.run = .running ∧ s.ime = false ∧ s.eiPending = false ∧ s.fetchInstr = .ei ∧
      (ran StepInput.empty s fun t => decide (t.fetchInstr = .di)) = true := by
  subst hs; decide

theorem test_witness_HaltBugReadsTheNextByteTwice (s : State) (hs : s = { program [0x76, 0x3C] with
    inputs := [{ request := none, irqPending := true, joypadWake := false }] }) :
    s.run = .running ∧ s.ime = false ∧ s.eiPending = false ∧ s.fetchInstr = .halt ∧
      (s.inputs.headD StepInput.empty).irqPending = true := by
  subst hs; decide

/-- The ends of the three ranges, by number. -/
theorem test_witness_EchoMirrorsAndTheUnusableRangeIsConstant :
    (0xC000 ≤ (0xC000 : Word).toNat ∧ (0xC000 : Word).toNat ≤ 0xDDFF) ∧
      (0xC000 ≤ (0xDDFF : Word).toNat ∧ (0xDDFF : Word).toNat ≤ 0xDDFF) ∧
      (0xDE00 ≤ (0xDE00 : Word).toNat ∧ (0xDE00 : Word).toNat ≤ 0xDFFF ∧ (0xFE00 : Word) ≠ 0xDE00) ∧
      (0xDE00 ≤ (0xDFFF : Word).toNat ∧ (0xDFFF : Word).toNat ≤ 0xDFFF ∧ (0xFFFF : Word) ≠ 0xDFFF) ∧
      (0xFEA0 ≤ (0xFEA0 : Word).toNat ∧ (0xFEA0 : Word).toNat ≤ 0xFEFF) ∧
      (0xFEA0 ≤ (0xFEFF : Word).toNat ∧ (0xFEFF : Word).toNat ≤ 0xFEFF) := by
  decide

theorem test_echo_and_unusable_bounds (s : State) (hs : s = withCells State.reset [(0xDDFF, 0x11), (0xDE00, 0x22), (0xFEA0, 0x33)]) :
    s.read8 0xFDFF = 0x11 ∧ s.read8 0xFE00 = 0x00 ∧ s.read8 0xFEA0 = 0xFF ∧ s.read8 0xFE9F = 0x00 ∧
      s.read8 0xFEFF = 0xFF ∧ s.read8 0xFF00 = 0x00 := by
  subst hs; decide

theorem test_witness_WordAccessIsLittleEndian :
    unusable (0xFE9E : Word).toNat = false ∧ unusable ((0xFE9E : Word) + 1).toNat = false ∧
      unusable (0xFFFF : Word).toNat = false ∧ unusable ((0xFFFF : Word) + 1).toNat = false := by
  decide

theorem test_witness_CanonicalMemoryIsDeterminedByItsReads (m : Memory) (hm : m = [(0xC000, 0x5A), (0xFFFF, 0x01)]) :
    m.wf = true ∧ ∀ a : Word, m.read8 0xFF a = m.read8 0xFF a := by
  subst hm
  exact ⟨by decide, fun _ => rfl⟩

theorem test_noncanonical_memories_are_refused :
    Memory.wf [(0xC000, 0x00)] = false ∧ Memory.wf [(5, 1), (3, 1)] = false ∧ Memory.wf [(5, 1), (5, 2)] = false ∧
      Memory.wf [(0xE000, 1)] = false ∧ Memory.wf [(0xFEA0, 1)] = false ∧ Memory.wf [(0x10000, 1)] = false := by
  decide

theorem test_witness_ResetBuildsTheTableAndTheImage :
    (List.replicate 65536 (0x76 : Byte)).length = 65536 ∧ Config.default.resetProfile = .dmgPostBoot := by
  exact ⟨List.length_replicate, rfl⟩

theorem test_witness_FlagAccessorsTouchOneBit : (0xF0 : Byte) &&& 0x0F = 0 := by
  decide

theorem test_witness_AccumulatorLoads_and_Stores :
    (Instr.ldh_A_mC, 1, 8, (0xFF13 : Word), (0x014D : Word)) ∈
      [(Instr.ldh_A_mC, 1, 8, 0xFF00 + zext16 State.reset.c, State.reset.hl)] := by
  decide

theorem test_witness_LoadsOfPairs : Reg16.bc ≠ .sp := by
  decide

theorem test_witness_PopLoadsThePair : Reg16S.hl ≠ .af := by
  decide

/-- The stack just below and just above the unusable range. -/
theorem test_witness_StackRoundTrip :
    (unusable ((0xFEA0 : Word) - 1).toNat = false ∧ unusable ((0xFEA0 : Word) - 2).toNat = false) ∧
      (unusable ((0xFF02 : Word) - 1).toNat = false ∧ unusable ((0xFF02 : Word) - 2).toNat = false) ∧
      (unusable ((0x0001 : Word) - 1).toNat = false ∧ unusable ((0x0001 : Word) - 2).toNat = false) := by
  decide

theorem test_witness_AddAndAdcGiveTheSum :
    (AluOp.add = .add ∧ false = false) ∧ AluOp.adc = .adc ∧ true = State.reset.flagC := by
  decide

theorem test_witness_SubAndSbcGiveTheDifference :
    (AluOp.sub = .sub ∧ false = false) ∧ AluOp.sbc = .sbc ∧ true = State.reset.flagC := by
  decide

theorem test_witness_LogicWorksBitByBit : AluOp.xor = .xor ∧ xor = xor := by
  exact ⟨rfl, rfl⟩

/-- 0x99 is the last value with no 0x60 correction of its own, 0x9A the first with one. -/
theorem test_witness_DaaFollowsTheFormula (s s' n : State) (hs : s = { State.reset with a := 0x99, f := 0 })
    (hs' : s' = { State.reset with a := 0x9A, f := 0 }) (hn : n = { State.reset with a := 0x0F, f := 0x60 }) :
    (s.flagN = false ∧ false = (s.flagC || decide (s.a.toNat > 0x99)) ∧ 0x99 = (s.a.toNat + 0) % 256) ∧
      (s'.flagN = false ∧ true = (s'.flagC || decide (s'.a.toNat > 0x99)) ∧ 0xFA = (s'.a.toNat + 0x60) % 256) ∧
      n.flagN = true := by
  subst hs hs' hn; decide

theorem test_witness_DaaGivesTheDecimalResult (s : State) (hs : s = { State.reset with a := 0x99, b := 0x00 }) :
    isBCD s.a = true ∧ isBCD (s.readR8 (.reg .b)) = true := by
  subst hs; decide

theorem test_witness_ResAndSetChangeOneBit :
    (Instr.res_7_A = Family.res 7 (.reg .a) ∧ (2 : BitVec 2) = 2 ∧ false = false) ∧
      Instr.set_0_mHL = Family.set 0 .memHL ∧ (3 : BitVec 2) = 3 ∧ true = true := by
  decide

theorem test_witness_AccumulatorRotatesClearZ : (Instr.rra, RotOp.rr) ∈
    [((.rlca : Instr), RotOp.rlc), (.rrca, .rrc), (.rla, .rl), (.rra, .rr)] := by
  decide

/-- Reset has Z = C = 1: each of taken and not taken. -/
theorem test_witness_CallsPushTheReturnAddress_ReturnsPopPC :
    State.reset.cond .z = true ∧ State.reset.cond .c = true ∧ State.reset.cond .nz = false ∧
      State.reset.cond .nc = false := by
  decide

theorem test_witness_SystemInstructions (p q : State) (x : StepInput)
    (hx : x = { request := none, irqPending := true, joypadWake := false }) (hp : p = { State.reset with input := x })
    (hq : q = { State.reset with ime := true, input := x }) :
    (p.ime = false ∧ p.input.irqPending = true) ∧ q.ime = true ∧ State.reset.input.irqPending = false := by
  subst hp hq hx; decide

theorem test_witness_UndefinedOpcodesLockOrSkip (s : State)
    (hs : s = { State.reset with cfg := { Config.default with illegalPolicy := .nop } }) :
    State.reset.cfg.illegalPolicy = .lock ∧ s.cfg.illegalPolicy = .nop := by
  subst hs; decide

end Sys2Proof.Tests
end

/-! SUPPORT. What every instruction does to one part of the state: the control state, memory, SP and F. Each is said
once, by family, and the statements about all instructions are read off. -/

namespace Sys2Proof.Proofs

open Sys2Proof.Machine Sys2Proof.Laws

/-! ### The fields an ALU operation leaves -/

@[simp] theorem aluOn_mem (op : AluOp) (v : Byte) (s : State) : (aluOn op v s).mem = s.mem := by cases op <;> rfl
@[simp] theorem aluOn_sp (op : AluOp) (v : Byte) (s : State) : (aluOn op v s).sp = s.sp := by cases op <;> rfl
@[simp] theorem aluOn_ime (op : AluOp) (v : Byte) (s : State) : (aluOn op v s).ime = s.ime := by cases op <;> rfl
@[simp] theorem aluOn_eiPending (op : AluOp) (v : Byte) (s : State) : (aluOn op v s).eiPending = s.eiPending := by
  cases op <;> rfl
@[simp] theorem aluOn_haltBug (op : AluOp) (v : Byte) (s : State) : (aluOn op v s).haltBug = s.haltBug := by
  cases op <;> rfl
@[simp] theorem aluOn_run (op : AluOp) (v : Byte) (s : State) : (aluOn op v s).run = s.run := by cases op <;> rfl
@[simp] theorem aluOn_cfg (op : AluOp) (v : Byte) (s : State) : (aluOn op v s).cfg = s.cfg := by cases op <;> rfl
@[simp] theorem aluOn_inputs (op : AluOp) (v : Byte) (s : State) : (aluOn op v s).inputs = s.inputs := by
  cases op <;> rfl
@[simp] theorem aluOn_input (op : AluOp) (v : Byte) (s : State) : (aluOn op v s).input = s.input := by
  cases op <;> rfl

/-! ### The CB rows -/

/-- Case analysis over the CB rows, by family (30_encoding.md R112). -/
theorem decodeCB_families {P : Instr → Prop} (rot : ∀ (op : RotOp) (o : Operand8), P (Family.rot op o))
    (bit : ∀ (b : Fin 8) (o : Operand8), P (Family.bit b o)) (res : ∀ (b : Fin 8) (o : Operand8), P (Family.res b o))
    (set : ∀ (b : Fin 8) (o : Operand8), P (Family.set b o)) (xx : Byte) : P (decodeCB xx) := by
  unfold decodeCB
  split
  · exact rot ..
  · exact bit ..
  · exact res ..
  · exact set ..

theorem encode_decodeCB_head (xx : Byte) : (encode (decodeCB xx)).head? = some 0xCB := by
  apply decodeCB_families (P := fun i => (encode i).head? = some 0xCB)
  case rot => intro op o; cases op <;> rcases o with ⟨⟨⟩⟩ | _ <;> rfl
  case bit => intro b o; fin_cases b <;> rcases o with ⟨⟨⟩⟩ | _ <;> rfl
  case res => intro b o; fin_cases b <;> rcases o with ⟨⟨⟩⟩ | _ <;> rfl
  case set => intro b o; fin_cases b <;> rcases o with ⟨⟨⟩⟩ | _ <;> rfl

theorem exec_decodeCB_kept {xx : Byte} {s t : State} : exec (decodeCB xx) s = .next t → Kept s t := by
  apply decodeCB_families (P := fun i => exec i s = .next t → Kept s t)
  case rot => intro op o h; rw [exec_rot] at h; cases h; constructor <;> simp
  case bit => intro b o h; rw [exec_bit] at h; cases h; constructor <;> simp
  case res => intro b o h; rw [exec_res] at h; cases h; constructor <;> simp
  case set => intro b o h; rw [exec_set] at h; cases h; constructor <;> simp

/-! ### The control state -/

/-- What an instruction does to IME, `ei_pending`, `halt_bug` and the run state: it consumes `halt_bug` and nothing
else, or it is one of the instructions below, or an undefined opcode that locks the core. -/
inductive ControlEffect : Instr → State → State → Prop where
  | kept {i : Instr} {s t : State} (h : Kept s t) : ControlEffect i s t
  | di (s : State) : ControlEffect .di s (({ s.passBytes 1 with ime := false, eiPending := false } : State).report 4)
  | ei (s : State) : ControlEffect .ei s (({ s.passBytes 1 with eiPending := true } : State).report 4)
  | reti (s : State) : ControlEffect .reti s (s.passBytes 1).returnFromInterrupt
  | haltBug (s : State) (hi : s.ime = false) :
    ControlEffect .halt s (({ s.passBytes 1 with haltBug := true } : State).report 4)
  | halt (s : State) : ControlEffect .halt s (({ s.passBytes 1 with run := .halted } : State).report 4)
  | stop (x : Byte) (s : State) :
    ControlEffect (.stop x) s (({ s.passBytes 2 with run := .stopped } : State).report 4)
  | lock (u : UndefOp) (s : State) : ControlEffect (Family.undef u) s (s.lockAtOpcode u.byte)

theorem exec_controlEffect {i : Instr} {s t : State} (h : exec i s = .next t) : ControlEffect i s t := by
  apply exec_cases (Q := ControlEffect) (h := h)
  case di => exact .di
  case ei => exact .ei
  case reti => exact .reti
  case stop => exact .stop
  case halt =>
    intro s
    split
    · next hb =>
      simp only [Bool.and_eq_true, Bool.not_eq_true'] at hb
      exact .haltBug s hb.1
    · exact .halt s
  case undef =>
    intro u s
    split
    · exact .lock u s
    · exact .kept (by constructor <;> simp [State.skipOpcode])
  case prefix_CB => intro xx s t he _; exact .kept (exec_decodeCB_kept he)
  case jpCond | jrCond | callCond | retCond => intros; split <;> exact .kept (by constructor <;> simp)
  all_goals intros; exact .kept (by constructor <;> simp)

/-! ### Memory and SP -/

/-- `m'` is `m` after stores through the map (20_memory.md R73). -/
inductive StoredFrom (m : Memory) : Memory → Prop where
  | same : StoredFrom m m
  | store {m' : Memory} (x : Word) (v : Byte) (h : StoredFrom m m') : StoredFrom m (m'.write8 x v)

theorem StoredFrom.keeps_wf {m m' : Memory} (h : StoredFrom m m') (hm : m.wf = true) : m'.wf = true := by
  induction h with
  | same => exact hm
  | store x v _ ih => exact wf_write8 ih x v

/-- Memory is as it was, or the instruction is one of R83's writers and memory changed by stores through the map. -/
def MemoryEffect (i : Instr) (s t : State) : Prop :=
  t.mem = s.mem ∨ writesMemory i = true ∧ StoredFrom s.mem t.mem

theorem MemoryEffect.of_store {i : Instr} {s t : State} {x : Word} {v : Byte} (hi : writesMemory i = true)
    (h : t.mem = s.mem.write8 x v) : MemoryEffect i s t :=
  .inr ⟨hi, h ▸ .store x v .same⟩

theorem MemoryEffect.of_two_stores {i : Instr} {s t : State} {x y : Word} {v w : Byte} (hi : writesMemory i = true)
    (h : t.mem = (s.mem.write8 x v).write8 y w) : MemoryEffect i s t :=
  .inr ⟨hi, h ▸ .store y w (.store x v .same)⟩

/-- An operand write stores only when the operand is (HL). -/
theorem MemoryEffect.of_writeR8 {i : Instr} {s t : State} {o : Operand8} {v : Byte} {n : Nat}
    (hi : o = .memHL → writesMemory i = true) (h : t.mem = ((s.passBytes n).writeR8 o v).mem) :
    MemoryEffect i s t := by
  cases o with
  | reg r => exact .inl (by simp [h, State.writeR8])
  | memHL => exact .of_store (x := s.hl) (v := v) (hi rfl) (by simp [h, State.writeR8])

theorem exec_memoryEffect {i : Instr} {s t : State} (h : exec i s = .next t) : MemoryEffect i s t := by
  apply exec_cases (Q := MemoryEffect) (h := h)
  case ldMemReg => intro r s; exact .of_store (by cases r <;> rfl) (by simp; rfl)
  case ldIndA => intro x s; exact .of_store (by cases x <;> rfl) (by simp; rfl)
  case ldh_ma8_A => intro n s; exact .of_store rfl (by simp; rfl)
  case ldh_mC_A => intro s; exact .of_store rfl (by simp; rfl)
  case ld_ma16_A => intro a s; exact .of_store rfl (by simp; rfl)
  case ld_ma16_SP => intro a s; exact .of_two_stores rfl (by simp; rfl)
  case push => intro p s; exact .of_two_stores (by cases p <;> rfl) (by simp; rfl)
  case rst => intro r s; exact .of_two_stores (by fin_cases r <;> rfl) (by simp; rfl)
  case call_a16 => intro a s; exact .of_two_stores rfl (by simp; rfl)
  case callCond =>
    intro cc a s
    split
    · exact .of_two_stores (by cases cc <;> rfl) (by simp; rfl)
    · exact .inl (by simp)
  case ldImm => intro o n s; exact .of_writeR8 (by rintro rfl; rfl) rfl
  case inc8 => intro o s; exact .of_writeR8 (by rintro rfl; rfl) rfl
  case dec8 => intro o s; exact .of_writeR8 (by rintro rfl; rfl) rfl
  case rot => intro op o s; exact .of_writeR8 (by rintro rfl; cases op <;> rfl) rfl
  case res => intro b o s; exact .of_writeR8 (by rintro rfl; fin_cases b <;> rfl) rfl
  case set => intro b o s; exact .of_writeR8 (by rintro rfl; fin_cases b <;> rfl) rfl
  case prefix_CB => intro xx s t _ ht; exact ht.imp_right fun h => ⟨rfl, h.2⟩
  case jpCond | jrCond | retCond | undef | halt =>
    intros
    split <;> exact .inl (by simp [State.lockAtOpcode, State.skipOpcode])
  all_goals intros; exact .inl (by simp [State.returnFromInterrupt])

theorem exec_keeps_wf {i : Instr} {s t : State} (h : exec i s = .next t) (hm : s.mem.wf = true) :
    t.mem.wf = true := by
  rcases exec_memoryEffect h with e | ⟨_, e⟩
  · rw [e]; exact hm
  · exact e.keeps_wf hm

/-- SP is as it was, or the instruction is one of those that write it (10_state.md R38). -/
def SPEffect (i : Instr) (s t : State) : Prop := movesSP i = true ∨ t.sp = s.sp

theorem movesSP_decodeCB (xx : Byte) : movesSP (decodeCB xx) = false := by
  revert xx; decide

theorem exec_spEffect {i : Instr} {s t : State} (h : exec i s = .next t) : SPEffect i s t := by
  apply exec_cases (Q := SPEffect) (h := h)
  case push => intro p s; exact .inl (by cases p <;> rfl)
  case pop => intro p s; exact .inl (by cases p <;> rfl)
  case rst => intro r s; exact .inl (by fin_cases r <;> rfl)
  case callCond => intro cc a s; exact .inl (by cases cc <;> rfl)
  case retCond => intro cc s; exact .inl (by cases cc <;> rfl)
  case call_a16 | ret | reti | add_SP_e8 | ld_SP_HL => intros; exact .inl rfl
  case ldReg16Imm | inc16 | dec16 =>
    intro p
    cases p <;> intros
    case sp => exact .inl rfl
    all_goals exact .inr (by simp [State.setReg16])
  case prefix_CB => intro xx s t _ ht; exact .inr (ht.resolve_left (by simp [movesSP_decodeCB]))
  case jpCond | jrCond | undef | halt =>
    intros
    split <;> exact .inr (by simp [State.lockAtOpcode, State.skipOpcode])
  all_goals intros; exact .inr (by simp)

/-! ### F and the flags column -/

/-- A character of the column allows what a record says of its flag: `-` only `keep`, `0` and `1` only that value. -/
def Allows : FlagEffect → Option Bool → Prop
  | .keep, v => v = none
  | .clear, v => v = some false
  | .set, v => v = some true
  | .computed, _ => True

/-- The column allows the record, flag by flag. -/
structure ColumnAllows (col : FlagColumn) (fl : FlagRec) : Prop where
  z : Allows col.z fl.z
  n : Allows col.n fl.n
  h : Allows col.h fl.h
  c : Allows col.c fl.c

theorem Allows.obeyed {x : FlagEffect} {v : Option Bool} (h : Allows x v) (before : Bool) :
    x.obeyed before (v.getD before) := by
  cases x with
  | computed => trivial
  | _ => cases h; rfl

/-- A state whose F is an allowed record's obeys the column. -/
theorem ColumnAllows.obeyed {col : FlagColumn} {fl : FlagRec} {s t : State} (h : ColumnAllows col fl)
    (hf : t.f = fl.apply s.f) : col.obeyed s t := by
  obtain ⟨hz, hn, hh, hc, _⟩ := flagsAre_of_apply hf
  exact ⟨hz ▸ h.z.obeyed _, hn ▸ h.n.obeyed _, hh ▸ h.h.obeyed _, hc ▸ h.c.obeyed _⟩

/-- The column of an ALU operation. -/
def aluColumn : AluOp → FlagColumn
  | .add | .adc => .colZ0HC
  | .sub | .sbc | .cp => .colZ1HC
  | .and => .colZ010
  | .xor | .or => .colZ000

theorem flagColumn_alu (op : AluOp) (o : Operand8) : FlagColumn.of (Family.alu op o) = aluColumn op := by
  cases op <;> rcases o with ⟨⟨⟩⟩ | _ <;> rfl

theorem flagColumn_aluImm (op : AluOp) (n : Byte) : FlagColumn.of (Family.aluImm op n) = aluColumn op := by
  cases op <;> rfl

theorem aluOn_record (op : AluOp) (v : Byte) (s : State) :
    ∃ fl, (aluOn op v s).f = fl.apply s.f ∧ ColumnAllows (aluColumn op) fl := by
  cases op <;> exact ⟨_, rfl, by constructor <;> trivial⟩

/-- The column of a CB rotate or shift: SWAP shifts no bit out. -/
def rotColumn : RotOp → FlagColumn
  | .swap => .colZ000
  | _ => .colZ00C

theorem flagColumn_rot (op : RotOp) (o : Operand8) : FlagColumn.of (Family.rot op o) = rotColumn op := by
  cases op <;> rcases o with ⟨⟨⟩⟩ | _ <;> rfl

theorem rotOn_columnAllows (op : RotOp) (v : Byte) (cin : Bool) : ColumnAllows (rotColumn op) (rotOn op v cin).2 := by
  rw [rotOn_record]
  cases op <;> constructor <;> trivial

theorem flagColumn_prefix_CB (xx : Byte) : FlagColumn.of (.prefix_CB xx) = FlagColumn.of (decodeCB xx) := by
  revert xx; decide

/-- What an instruction does to F: the column is `----` and F is as it was, or F is a record the column allows, or the
instruction is POP AF. -/
inductive FlagsEffect : Instr → State → State → Prop where
  | same {i : Instr} {s t : State} (hi : FlagColumn.of i = .colKKKK) (hf : t.f = s.f) : FlagsEffect i s t
  | record {i : Instr} {s t : State} {col : FlagColumn} {fl : FlagRec} (hi : FlagColumn.of i = col)
    (hf : t.f = fl.apply s.f) (hc : ColumnAllows col fl) : FlagsEffect i s t
  | pop_AF {s t : State} {v : Byte} (hf : t.f = maskF v) : FlagsEffect .pop_AF s t

theorem exec_flagsEffect {i : Instr} {s t : State} (h : exec i s = .next t) : FlagsEffect i s t := by
  apply exec_cases (Q := FlagsEffect) (h := h)
  case alu =>
    intro op o s
    obtain ⟨fl, hf, hc⟩ := aluOn_record op ((s.passBytes 1).readR8 o) (s.passBytes 1)
    exact .record (flagColumn_alu op o) (by simpa using hf) hc
  case aluImm =>
    intro op n s
    obtain ⟨fl, hf, hc⟩ := aluOn_record op n (s.passBytes 2)
    exact .record (flagColumn_aluImm op n) (by simpa using hf) hc
  case inc8 =>
    intro o s
    exact .record (col := .colZ0HK) (by rcases o with ⟨⟨⟩⟩ | _ <;> rfl) (by simp; rfl) (by constructor <;> trivial)
  case dec8 =>
    intro o s
    exact .record (col := .colZ1HK) (by rcases o with ⟨⟨⟩⟩ | _ <;> rfl) (by simp; rfl) (by constructor <;> trivial)
  case addHL =>
    intro p s
    exact .record (col := .colK0HC) (by cases p <;> rfl) (by simp; rfl) (by constructor <;> trivial)
  case rot => intro op o s; exact .record (flagColumn_rot op o) (by simp; rfl) (rotOn_columnAllows op _ _)
  case bit =>
    intro b o s
    exact .record (col := .colZ01K) (by fin_cases b <;> rcases o with ⟨⟨⟩⟩ | _ <;> rfl) (by simp; rfl)
      (by constructor <;> trivial)
  case rlca | rrca | rla | rra =>
    intro s
    exact .record (col := .col000C) rfl (by simp; rfl) (by constructor <;> trivial)
  case add_SP_e8 | ld_HL_SPe8 =>
    intro e s
    exact .record (col := .col00HC) rfl (by simp; rfl) (by constructor <;> trivial)
  case daa => intro s; exact .record (col := .colZK0C) rfl (by simp; rfl) (by constructor <;> trivial)
  case cpl => intro s; exact .record (col := .colK11K) rfl (by simp; rfl) (by constructor <;> trivial)
  case scf => intro s; exact .record (col := .colK001) rfl (by simp; rfl) (by constructor <;> trivial)
  case ccf => intro s; exact .record (col := .colK00C) rfl (by simp; rfl) (by constructor <;> trivial)
  case pop =>
    intro p s
    cases p with
    | af => exact .pop_AF rfl
    | bc | de | hl => exact .same rfl (by simp [State.setReg16S])
  case prefix_CB =>
    intro xx s t _ ht
    generalize hi : decodeCB xx = i at ht
    have hcol : FlagColumn.of (.prefix_CB xx) = FlagColumn.of i := hi ▸ flagColumn_prefix_CB xx
    cases ht with
    | same hk hf => exact .same (hcol.trans hk) hf
    | record hk hf hc => exact .record (hcol.trans hk) hf hc
    | pop_AF => exact absurd (hi ▸ encode_decodeCB_head xx) (by decide)
  case ldRegReg => intro dst src s; exact .same (by cases dst <;> cases src <;> rfl) (by simp)
  case ldRegMem => intro dst s; exact .same (by cases dst <;> rfl) (by simp)
  case ldMemReg => intro src s; exact .same (by cases src <;> rfl) (by simp)
  case ldImm => intro o n s; exact .same (by rcases o with ⟨⟨⟩⟩ | _ <;> rfl) (by simp)
  case ldAInd => intro x s; exact .same (by cases x <;> rfl) (by simp)
  case ldIndA => intro x s; exact .same (by cases x <;> rfl) (by simp)
  case ldReg16Imm => intro p v s; exact .same (by cases p <;> rfl) (by simp)
  case inc16 => intro p s; exact .same (by cases p <;> rfl) (by simp)
  case dec16 => intro p s; exact .same (by cases p <;> rfl) (by simp)
  case push => intro p s; exact .same (by cases p <;> rfl) (by simp)
  case res => intro b o s; exact .same (by fin_cases b <;> rcases o with ⟨⟨⟩⟩ | _ <;> rfl) (by simp)
  case set => intro b o s; exact .same (by fin_cases b <;> rcases o with ⟨⟨⟩⟩ | _ <;> rfl) (by simp)
  case rst => intro r s; exact .same (by fin_cases r <;> rfl) (by simp)
  case jpCond => intro cc a s; exact .same (by cases cc <;> rfl) (by split <;> simp)
  case jrCond => intro cc e s; exact .same (by cases cc <;> rfl) (by split <;> simp)
  case callCond => intro cc a s; exact .same (by cases cc <;> rfl) (by split <;> simp)
  case retCond => intro cc s; exact .same (by cases cc <;> rfl) (by split <;> simp)
  case undef =>
    intro u s
    exact .same (by cases u <;> rfl) (by split <;> simp [State.lockAtOpcode, State.skipOpcode])
  case halt => intro s; exact .same rfl (by split <;> simp)
  all_goals intros; exact .same rfl (by simp [State.returnFromInterrupt])

theorem exec_keeps_flagsLow {i : Instr} {s t : State} (h : exec i s = .next t) (hf : s.f &&& 0x0F = 0) :
    t.f &&& 0x0F = 0 := by
  cases exec_flagsEffect h with
  | same _ e => rw [e]; exact hf
  | record _ e _ => rw [e]; exact apply_low _ _
  | pop_AF e => rw [e]; exact maskF_low _

end Sys2Proof.Proofs

/-! The statements of 10_state.md about the invariant, reset, the harness, the flags and the EI delay. -/

namespace Sys2Proof.Proofs

open Sys2Proof.Machine Sys2Proof.Laws

/-! ### The undefined opcode a locked core stands on -/

/-- The bytes after the first do not change the opcode that is decoded: the cases that `rfl` leaves are the families
with operand bytes, and the CB rows. -/
theorem encode_decodeBytes_head_eq (op b1 b2 : Byte) :
    (encode (decodeBytes op b1 b2)).head? = (encode (decodeBytes op 0 0)).head? := by
  simp only [decodeBytes, decodeBlock0, decodeBlock3]
  repeat' split
  any_goals rfl
  · cases condOf (ccField op) <;> rfl
  · cases operand16 (pField op) <;> rfl
  · rcases operand8 (yField op) with ⟨⟨⟩⟩ | _ <;> rfl
  · cases condOf (ccField op) <;> rfl
  · rw [encode_decodeCB_head, encode_decodeCB_head]
  · cases condOf (ccField op) <;> rfl
  · cases aluOf (yField op) <;> rfl

/-- An instruction's encoding starts with the byte it was decoded from (30_encoding.md R126). -/
theorem encode_decodeBytes_head (op b1 b2 : Byte) : (encode (decodeBytes op b1 b2)).head? = some op := by
  rw [encode_decodeBytes_head_eq]
  revert op; decide

theorem encode_undef (u : UndefOp) : encode (Family.undef u) = [u.byte] := by
  cases u <;> rfl

/-- What is fetched as an undefined opcode is the byte at PC, `halt_bug` or not. -/
theorem read8_pc_of_fetchInstr_undef {s : State} {u : UndefOp} (h : s.fetchInstr = Family.undef u) :
    s.read8 s.pc = u.byte := by
  have hpc : fetchAddr s 0 = s.pc := by simp [fetchAddr]
  have hhead := encode_decodeBytes_head (s.read8 (fetchAddr s 0)) (s.read8 (fetchAddr s 1)) (s.read8 (fetchAddr s 2))
  rw [← fetchInstr_eq, h, encode_undef, hpc] at hhead
  exact (Option.some.inj hhead).symm

/-! ### The invariant through the phases -/

theorem inv_takeInput {s : State} (h : Inv s) : Inv s.takeInput :=
  ⟨h.flagsLow, h.memory, h.haltBug, h.eiPending, h.locked⟩

theorem inv_lockedPhase {s : State} (h : Inv s) (op : Byte) (addr : Word) : Inv (s.lockedPhase op addr) :=
  ⟨h.flagsLow, h.memory, h.haltBug, h.eiPending, h.locked⟩

/-- Phases 2 and 4: a waiting core stays as it is or wakes. -/
theorem inv_wake {s : State} (h : Inv s) (hr : s.run = .stopped ∨ s.run = .halted) (wake : Bool) (n : Nat) :
    Inv (({ s with run := if wake then .running else s.run } : State).report n) where
  flagsLow := h.flagsLow
  memory := h.memory
  haltBug hb := by
    have := (h.haltBug hb).2.2
    simp_all
  eiPending he := by
    have := h.eiPending he
    simp_all
  locked op addr hl := by
    rcases hr with hr | hr <;> cases wake <;> simp [hr] at hl

/-- Phase 3: a dispatch turns IME off and leaves a running core, in which `halt_bug` was not set. -/
theorem inv_dispatchInterrupt {s : State} (h : Inv s) (hr : s.run = .running ∨ s.run = .halted) (hi : s.ime = true)
    (v : Word) : Inv (s.dispatchInterrupt v) := by
  have hb : s.haltBug ≠ true := fun hb => by simp [(h.haltBug hb).1] at hi
  have hrun : (s.dispatchInterrupt v).run = .running := by
    rcases hr with hr | hr <;> simp [State.dispatchInterrupt, hr]
  exact ⟨h.flagsLow, push16_keeps_wf (s := { s with ime := false, eiPending := false }) h.memory s.pc,
    fun hb' => absurd hb' hb, fun _ => hrun, fun op addr hl => by simp [hrun] at hl⟩

/-- Phase 6: the instruction at PC, run by a running core with no EI pending. -/
theorem inv_exec_fetchInstr {s t : State} (hf : s.f &&& 0x0F = 0) (hm : s.mem.wf = true) (hr : s.run = .running)
    (he : s.eiPending = false) (h : exec s.fetchInstr s = .next t) : Inv t := by
  have hf' := exec_keeps_flagsLow h hf
  have hm' := exec_keeps_wf h hm
  generalize hi : s.fetchInstr = i at h
  cases exec_controlEffect h with
  | kept k => exact ⟨hf', hm', by simp [k.haltBug], by simp [k.eiPending, he], by simp [k.run, hr]⟩
  | di => exact ⟨hf', hm', by simp, by simp, by simp [hr]⟩
  | ei => exact ⟨hf', hm', by simp, by simp [hr], by simp [hr]⟩
  | reti =>
    exact ⟨hf', hm', by simp [State.returnFromInterrupt], by simp [State.returnFromInterrupt],
      by simp [State.returnFromInterrupt, hr]⟩
  | haltBug _ hime => exact ⟨hf', hm', by simp [hime, he, hr], by simp [he], by simp [hr]⟩
  | halt => exact ⟨hf', hm', by simp, by simp [he], by simp⟩
  | stop => exact ⟨hf', hm', by simp, by simp [he], by simp⟩
  | lock u =>
    refine ⟨hf', hm', by simp [State.lockAtOpcode], by simp [State.lockAtOpcode, he], fun op addr hl => ?_⟩
    obtain ⟨rfl, rfl⟩ : u.byte = op ∧ s.pc = addr := by simpa [State.lockAtOpcode] using hl
    have hread : (s.lockAtOpcode u.byte).read8 s.pc = s.read8 s.pc :=
      read8_congr (by simp [State.lockAtOpcode]) (by simp [State.lockAtOpcode]) s.pc
    exact ⟨rfl, hread.trans (read8_pc_of_fetchInstr_undef hi), by cases u <;> rfl⟩

/-- Phases 5 and 6: EI promotion leaves what the instruction at PC needs. -/
theorem inv_execute {s t : State} (h : Inv s) (hr : s.run = .running)
    (he : exec s.fetchInstr s.takeInput.promoteEI = .next t) : Inv t := by
  rw [← fetchInstr_promoteEI_takeInput] at he
  exact inv_exec_fetchInstr (by simpa using h.flagsLow) (by simpa using h.memory) (by simpa using hr) (by simp) he

/-- Settles O14: each phase keeps the invariant. -/
theorem stepKeepsInvariant : Obligations.StepKeepsInvariant := by
  intro s t h ht
  have hin := inv_takeInput h
  rcases step_cases s with ⟨op, addr, _, e⟩ | ⟨hr, e⟩ | ⟨v, hr, hi, _, e⟩ | ⟨hr, _, e⟩ | ⟨hr, _, e⟩ <;> rw [e] at ht
  · cases ht
    exact inv_lockedPhase hin op addr
  · cases ht
    rw [stoppedPhase_eq]
    exact inv_wake hin (.inl hr) _ 4
  · cases ht
    exact inv_dispatchInterrupt hin hr hi v
  · cases ht
    rw [haltedPhase_eq]
    exact inv_wake hin (.inr hr) _ 4
  · exact inv_execute h hr ht

/-! ### Reset -/

theorem inv_reset : Inv State.reset where
  flagsLow := by decide
  memory := wf_reset
  haltBug h := by cases h
  eiPending h := by cases h
  locked _ _ h := by cases h

/-- The hidden state right after reset, in either profile (R48, R461). -/
theorem ofProfile_hidden (p : ResetProfile) : (State.ofProfile p).ime = false ∧ (State.ofProfile p).eiPending = false ∧
    (State.ofProfile p).haltBug = false ∧ (State.ofProfile p).run = .running := by
  cases p <;> exact ⟨rfl, rfl, rfl, rfl⟩

theorem ofProfile_flagsLow (p : ResetProfile) : (State.ofProfile p).f &&& 0x0F = 0 := by
  cases p <;> decide

theorem boot_of_dmgPostBoot {cfg : Config} (h : cfg.resetProfile = .dmgPostBoot) (image : List Byte) :
    State.boot cfg image = { State.reset with cfg := cfg, mem := Memory.ofImage image } := by
  simp only [State.boot, h, State.ofProfile]

theorem inv_boot (cfg : Config) (image : List Byte) : Inv (State.boot cfg image) := by
  obtain ⟨_, he, hb, hr⟩ := ofProfile_hidden cfg.resetProfile
  exact ⟨ofProfile_flagsLow _, wf_boot cfg image, fun h => by simp [State.boot, hb] at h,
    fun h => by simp [State.boot, he] at h, fun _ _ h => by simp [State.boot, hr] at h⟩

/-- Settles O13: the hidden state is clear in both profiles, and an image's memory is canonical. -/
theorem resetMeetsInvariant : Obligations.ResetMeetsInvariant := ⟨inv_reset, inv_boot⟩

/-- Every address of a booted machine reads the image's byte at its cell. -/
theorem read8_boot (cfg : Config) (image : List Byte) (a : Word) : (State.boot cfg image).read8 a =
    if unusable a.toNat then cfg.unusableRead else image.getD (mapAddr a).toNat 0 := by
  show (Memory.ofImage image).read8 cfg.unusableRead a = _
  unfold Memory.read8
  split
  · rfl
  · next hu =>
    exact get_ofBytesAt 0 _ image (reachable_mapAddr (by simpa using hu)) (Nat.zero_le _)

/-- The register table of R48. -/
theorem reset_table : State.reset.af = 0x01B0 ∧ State.reset.bc = 0x0013 ∧ State.reset.de = 0x00D8 ∧
    State.reset.hl = 0x014D ∧ State.reset.sp = 0xFFFE ∧ State.reset.pc = 0x0100 := by
  decide

/-- Settles O27: the table of the profile, and each reachable cell the image's byte. -/
theorem resetBuildsTheTableAndTheImage : Obligations.ResetBuildsTheTableAndTheImage := by
  intro cfg image _
  obtain ⟨hi, he, hb, hr⟩ := ofProfile_hidden cfg.resetProfile
  refine ⟨_, rfl, fun hp => ?_, hi, he, hb, hr, rfl, read8_boot cfg image⟩
  rw [boot_of_dmgPostBoot hp]
  exact reset_table

/-! ### Harness writes -/

theorem setFlag_low (k : FlagKind) (v : Bool) (f : Byte) : setFlag k v f &&& 0x0F = 0 := maskF_low _

theorem harnessWrite_keeps_flagsLow {s : State} (h : s.f &&& 0x0F = 0) (w : HarnessWrite) :
    (s.harnessWrite w).f &&& 0x0F = 0 := by
  cases w with
  | reg8 r v => cases r <;> exact h
  | regF v => exact maskF_low v
  | pair p v =>
    cases p with
    | af => exact maskF_low (lo v)
    | bc | de | hl => exact h
  | flag k v => exact setFlag_low k v s.f
  | _ => exact h

/-- Settles O15: F is masked by each write that reaches it, and memory is written through `write8`. -/
theorem harnessWritesMaskF : Obligations.HarnessWritesMaskF :=
  ⟨fun w _ hf hm => ⟨harnessWrite_keeps_flagsLow hf w, harnessWrite_keeps_wf hm w⟩, fun _ _ => rfl,
    fun _ _ => ⟨rfl, rfl⟩⟩

/-! ### Rules over all instructions -/

/-- Settles O16: a record the column allows obeys it; POP AF's column is all letters. -/
theorem flagsColumnHolds : Obligations.FlagsColumnHolds := by
  intro i s t _ h
  cases exec_flagsEffect h with
  | same hi hf => simp [hi, FlagColumn.obeyed, FlagColumn.colKKKK, FlagEffect.obeyed, State.flagZ, State.flagN,
      State.flagH, State.flagC, State.flag, hf]
  | record hi hf hc => exact hi ▸ hc.obeyed hf
  | pop_AF => exact ⟨trivial, trivial, trivial, trivial⟩

/-- Settles O19: of the control effects only DI's and RETI's reach IME, and only those and EI's `ei_pending`. -/
theorem onlyDiAndRetiWriteIme : Obligations.OnlyDiAndRetiWriteIme := by
  intro i s t h
  cases exec_controlEffect h with
  | kept k => exact ⟨fun hi => absurd k.ime hi, fun he => absurd k.eiPending he⟩
  | di => exact ⟨fun _ => .inl ⟨rfl, rfl⟩, fun _ => .inr (.inl rfl)⟩
  | ei => exact ⟨fun hi => absurd (by simp) hi, fun _ => .inl rfl⟩
  | reti => exact ⟨fun _ => .inr ⟨rfl, rfl⟩, fun _ => .inr (.inr rfl)⟩
  | haltBug | halt | stop => exact ⟨fun hi => absurd (by simp) hi, fun he => absurd (by simp) he⟩
  | lock u =>
    exact ⟨fun hi => absurd (by simp [State.lockAtOpcode]) hi, fun he => absurd (by simp [State.lockAtOpcode]) he⟩

/-- Settles O20: read off the effects on memory and on SP. -/
theorem onlyTheMapsWritersWriteMemoryAndSP : Obligations.OnlyTheMapsWritersWriteMemoryAndSP := fun _ _ _ h =>
  ⟨fun hw => (exec_memoryEffect h).resolve_right (by simp [hw]),
    fun hs => (exec_spEffect h).resolve_left (by simp [hs])⟩

/-! ### The EI delay -/

/-- A running core that accepts no request runs the instruction at PC, after EI promotion. -/
theorem step_running {s : State} (hr : s.run = .running) (hq : s.ime = false ∨ s.nextInput.request = none) :
    step s = exec s.fetchInstr s.takeInput.promoteEI := by
  rcases step_cases s with ⟨_, _, h, _⟩ | ⟨h, _⟩ | ⟨v, _, hi, hv, _⟩ | ⟨h, _⟩ | ⟨_, _, e⟩
  · simp [hr] at h
  · simp [hr] at h
  · simp [hi, hv] at hq
  · simp [hr] at h
  · exact e

/-- Settles O21: IME is still 0 at the boundary after EI, so the next step accepts nothing and promotes. -/
theorem eiTakesEffectAfterTheNextInstruction : Obligations.EiTakesEffectAfterTheNextInstruction := by
  intro s hr hi he hf
  have h1 := step_running hr (.inl hi)
  rw [hf] at h1
  set t := ({ s.takeInput.promoteEI.passBytes 1 with eiPending := true } : State).report 4 with ht
  have hime : t.ime = false := by simp [ht, hi, he]
  have hpend : t.eiPending = true := by simp [ht]
  have hrun : t.run = .running := by simp [ht, hr]
  have h2 := step_running hrun (.inl hime)
  refine ⟨t, h1, hime, hpend, hrun, ?_, fun hdi => ?_⟩
  · rw [h2, promoteEI_eq, takeInput_ime, takeInput_eiPending, hime, hpend]
    rfl
  · rw [hdi] at h2
    exact ⟨_, h2, rfl, rfl, rfl, rfl⟩

/-! ### The flag accessors -/

theorem getFlag_setFlag (k k' : FlagKind) (v : Bool) (f : Byte) :
    getFlag k' (setFlag k v f) = if k' = k then v else getFlag k' f := by
  cases k <;> cases k' <;> cases v <;> simp [getFlag, setFlag, maskF, FlagKind.bit]

/-- F with a zero low nibble is its four flags packed (R32, R33). -/
theorem packF_flags {f : Byte} (h : f &&& 0x0F = 0) :
    f = packF (getFlag .zero f) (getFlag .subtract f) (getFlag .halfCarry f) (getFlag .carry f) := by
  revert h; revert f; decide

theorem cond_eq (s : State) : (s.cond .nz = !s.f.getLsbD 7) ∧ (s.cond .z = s.f.getLsbD 7) ∧
    (s.cond .nc = !s.f.getLsbD 4) ∧ (s.cond .c = s.f.getLsbD 4) := ⟨rfl, rfl, rfl, rfl⟩

/-- Settles O28: bit by bit for the accessors, and over the values of F for the packing. -/
theorem flagAccessorsTouchOneBit : Obligations.FlagAccessorsTouchOneBit := by
  refine ⟨fun k k' v f => ⟨getFlag_setFlag k k' v f, setFlag_low k v f⟩, fun _ => packF_flags, fun s => ?_⟩
  obtain ⟨hnz, hz, hnc, hc⟩ := cond_eq s
  simp only [hnz, hz, hnc, hc, Bool.not_eq_true', and_self]

end Sys2Proof.Proofs

/-! The statements of 20_memory.md: stores through the map, echo RAM and the unusable range, 16-bit accesses, and the
canonical form. -/

namespace Sys2Proof.Proofs

open Sys2Proof.Machine Sys2Proof.Laws

/-! ### One store -/

theorem storedAt_write8 (s : State) (x : Word) (v : Byte) : StoredAt x v s (s.write8 x v) := storedAt_of_mem rfl rfl

/-- Settles O23: the store law, over every state. -/
theorem writeIsReadBackThroughTheMap : Obligations.WriteIsReadBackThroughTheMap := storedAt_write8

/-- Outside the unusable range a stored byte is read at every address of its cell (R72). -/
theorem read8_write8_of_mapAddr_eq {x a : Word} (hc : mapAddr a = mapAddr x) (hu : unusable x.toNat = false) (s : State)
    (v : Byte) : (s.write8 x v).read8 a = v := by
  rw [read8_write8, if_pos ⟨hc, hu⟩]

/-- A store is not seen at an address of another cell. -/
theorem read8_write8_of_mapAddr_ne {x a : Word} (hc : mapAddr a ≠ mapAddr x) (s : State) (v : Byte) :
    (s.write8 x v).read8 a = s.read8 a := by
  rw [read8_write8, if_neg fun h => hc h.1]

/-- A store in the unusable range is discarded (R75). -/
theorem write8_of_unusable {x : Word} (h : unusable x.toNat = true) (s : State) (v : Byte) : s.write8 x v = s := by
  have hm : s.mem.write8 x v = s.mem := if_pos h
  rw [State.write8, hm]

/-- A read in the unusable range gives `UNUSABLE_READ` (R75). -/
theorem read8_of_unusable {x : Word} (h : unusable x.toNat = true) (s : State) : s.read8 x = s.cfg.unusableRead :=
  if_pos h

/-! ### Echo RAM -/

theorem toNat_add_echo_offset {a : Word} (h : a.toNat ≤ 0xDDFF) : (a + 0x2000).toNat = a.toNat + 0x2000 := by
  rw [BitVec.toNat_add]
  simp
  omega

/-- An address of C000–DDFF and its mirror have one cell (R74). -/
theorem mapAddr_add_echo_offset {a : Word} (hlo : 0xC000 ≤ a.toNat) (hhi : a.toNat ≤ 0xDDFF) :
    mapAddr (a + 0x2000) = mapAddr a := by
  apply BitVec.eq_of_toNat_eq
  rw [mapAddr_toNat, mapAddr_toNat, toNat_add_echo_offset hhi]
  split <;> split <;> omega

/-- The cell of an address in DE00–DFFF has no other address: the echo range ends at the mirror of DDFF (R74). -/
theorem mapAddr_ne_of_unmirrored {a b : Word} (hlo : 0xDE00 ≤ a.toNat) (hhi : a.toNat ≤ 0xDFFF) (hne : b ≠ a) :
    mapAddr b ≠ mapAddr a := by
  intro h
  have hnat : b.toNat ≠ a.toNat := fun e => hne (BitVec.eq_of_toNat_eq e)
  have e := congrArg BitVec.toNat h
  rw [mapAddr_toNat, mapAddr_toNat] at e
  split at e <;> split at e <;> omega

/-- A byte written at an address of C000–DDFF or at its mirror is read at both. -/
theorem echo_mirrors (s : State) (a : Word) (v : Byte) (hlo : 0xC000 ≤ a.toNat) (hhi : a.toNat ≤ 0xDDFF) :
    (s.write8 a v).read8 (a + 0x2000) = v ∧ (s.write8 a v).read8 a = v ∧
    (s.write8 (a + 0x2000) v).read8 a = v ∧ (s.write8 (a + 0x2000) v).read8 (a + 0x2000) = v := by
  have hcell := mapAddr_add_echo_offset hlo hhi
  have hu : unusable a.toNat = false := unusable_eq_false.2 (by omega)
  have hu' : unusable (a + 0x2000).toNat = false := unusable_of_mapAddr_eq hcell hu
  exact ⟨read8_write8_of_mapAddr_eq hcell hu s v, read8_write8_of_mapAddr_eq rfl hu s v,
    read8_write8_of_mapAddr_eq hcell.symm hu' s v, read8_write8_of_mapAddr_eq rfl hu' s v⟩

/-- Settles O24: by the cells of the addresses, range by range. -/
theorem echoMirrorsAndTheUnusableRangeIsConstant : Obligations.EchoMirrorsAndTheUnusableRangeIsConstant := by
  refine ⟨echo_mirrors, fun s a b v hlo hhi hne => ?_, fun s a v hlo hhi => ?_, rfl⟩
  · exact read8_write8_of_mapAddr_ne (mapAddr_ne_of_unmirrored hlo hhi hne) s v
  · have hu : unusable a.toNat = true := unusable_eq_true.2 ⟨hlo, hhi⟩
    exact ⟨write8_of_unusable hu s v, read8_of_unusable hu s⟩

/-! ### Words -/

theorem storedTwo_write16 (s : State) (a v : Word) : StoredTwo a (lo v) (a + 1) (hi v) s (s.write16 a v) :=
  storedTwo_of_mem (mapAddr_ne_succ a).symm rfl rfl

/-- What two stores to usable, different cells leave at the two addresses. -/
theorem storedTwo_read8 {s s' : State} {x y : Word} {vx vy : Byte} (h : StoredTwo x vx y vy s s')
    (hne : mapAddr y ≠ mapAddr x) (hx : unusable x.toNat = false) (hy : unusable y.toNat = false) :
    s'.read8 x = vx ∧ s'.read8 y = vy := by
  refine ⟨?_, ?_⟩
  · rw [h x, if_pos ⟨rfl, hx⟩]
  · rw [h y, if_neg fun e => hne e.1, if_pos ⟨rfl, hy⟩]

theorem read16_write16 {a : Word} (h0 : unusable a.toNat = false) (h1 : unusable (a + 1).toNat = false) (s : State)
    (v : Word) : (s.write16 a v).read16 a = v := by
  obtain ⟨hlo, hhi⟩ := storedTwo_read8 (storedTwo_write16 s a v) (mapAddr_ne_succ a) h0 h1
  rw [State.read16, hlo, hhi, w16_hi_lo]

/-- Settles O25: a word store is two byte stores to different cells. -/
theorem wordAccessIsLittleEndian : Obligations.WordAccessIsLittleEndian := fun s a v =>
  ⟨rfl, storedTwo_write16 s a v, fun h0 h1 => read16_write16 h0 h1 s v⟩

/-! ### The canonical form -/

theorem wfFrom_cons {low k : Nat} {v : Byte} {rest : Memory} : Memory.wfFrom low ((k, v) :: rest) = true ↔
    low ≤ k ∧ Memory.reachable k = true ∧ v ≠ Memory.unlisted ∧ Memory.wfFrom (k + 1) rest = true := by
  simp [Memory.wfFrom, and_assoc]

@[simp] theorem get_cons_self (k : Nat) (v : Byte) (rest : Memory) : Memory.get ((k, v) :: rest) k = v := if_pos rfl

theorem get_cons_of_ne {j k : Nat} (h : j ≠ k) (v : Byte) (rest : Memory) :
    Memory.get ((k, v) :: rest) j = rest.get j := if_neg h

/-- A canonical list holds a listed value only at a reachable cell from its lower bound on. -/
theorem le_and_reachable_of_get_ne {m : Memory} {low j : Nat} (h : m.wfFrom low = true)
    (hj : m.get j ≠ Memory.unlisted) : low ≤ j ∧ Memory.reachable j = true := by
  induction m generalizing low with
  | nil => exact absurd rfl hj
  | cons x rest ih =>
    obtain ⟨k, v⟩ := x
    obtain ⟨hk, hr, -, hrest⟩ := wfFrom_cons.1 h
    by_cases e : j = k
    · exact e ▸ ⟨hk, hr⟩
    · rw [get_cons_of_ne e] at hj
      obtain ⟨hle, hrj⟩ := ih hrest hj
      exact ⟨by omega, hrj⟩

/-- The cells below a canonical list's lower bound are unlisted. -/
theorem get_of_lt {m : Memory} {low j : Nat} (h : m.wfFrom low = true) (hj : j < low) : m.get j = Memory.unlisted :=
  of_not_not fun hne => absurd (le_and_reachable_of_get_ne h hne).1 (by omega)

theorem get_of_unreachable {m : Memory} {j : Nat} (h : m.wf = true) (hj : Memory.reachable j = false) :
    m.get j = Memory.unlisted :=
  of_not_not fun hne => absurd (le_and_reachable_of_get_ne h hne).2 (by simp [hj])

/-- Lists that agree in every cell and begin with the same cell agree in their heads and in every cell of their tails. -/
theorem tails_agree {k : Nat} {v v' : Byte} {rest rest' : Memory} (h : rest.wfFrom (k + 1) = true)
    (h' : rest'.wfFrom (k + 1) = true)
    (hget : ∀ j, Memory.get ((k, v) :: rest) j = Memory.get ((k, v') :: rest') j) :
    v = v' ∧ ∀ j, rest.get j = rest'.get j := by
  refine ⟨by simpa using hget k, fun j => ?_⟩
  by_cases e : j = k
  · rw [get_of_lt h (by omega), get_of_lt h' (by omega)]
  · simpa only [get_cons_of_ne e] using hget j

/-- Canonical lists that agree in every cell are equal: each one's first key is listed in the other, so neither comes
before the other. -/
theorem eq_of_get_eq {m m' : Memory} {low : Nat} (h : m.wfFrom low = true) (h' : m'.wfFrom low = true)
    (hget : ∀ j, m.get j = m'.get j) : m = m' := by
  induction m generalizing m' low with
  | nil =>
    cases m' with
    | nil => rfl
    | cons y _ =>
      obtain ⟨-, -, hv, -⟩ := wfFrom_cons.1 h'
      exact absurd (by simpa [Memory.get] using (hget y.1).symm) hv
  | cons x rest ih =>
    obtain ⟨k, v⟩ := x
    obtain ⟨hk, hr, hv, hrest⟩ := wfFrom_cons.1 h
    cases m' with
    | nil => exact absurd (by simpa [Memory.get] using hget k) hv
    | cons y rest' =>
      obtain ⟨k', v'⟩ := y
      obtain ⟨hk', hr', hv', hrest'⟩ := wfFrom_cons.1 h'
      have hle' : k' ≤ k :=
        (le_and_reachable_of_get_ne (wfFrom_cons.2 ⟨le_rfl, hr', hv', hrest'⟩) (by simpa [← hget k] using hv)).1
      have hle : k ≤ k' :=
        (le_and_reachable_of_get_ne (wfFrom_cons.2 ⟨le_rfl, hr, hv, hrest⟩) (by simpa [hget k'] using hv')).1
      obtain rfl := Nat.le_antisymm hle hle'
      obtain ⟨rfl, htail⟩ := tails_agree hrest hrest' hget
      rw [ih hrest hrest' htail]

/-- A reachable cell is read at its own address (R72). -/
theorem mem_read8_of_reachable (m : Memory) (sentinel : Byte) {k : Nat} (h : Memory.reachable k = true) :
    m.read8 sentinel (BitVec.ofNat 16 k) = m.get k := by
  obtain ⟨hlt, hecho, hun⟩ := reachable_eq_true.1 h
  have hk : (BitVec.ofNat 16 k).toNat = k := Nat.mod_eq_of_lt hlt
  have hu : unusable k = false := unusable_eq_false.2 hun
  simp only [Memory.read8, mapAddr_toNat, hk, hu, if_neg hecho, Bool.false_eq_true, if_false]

/-- Settles O26: the reads give every reachable cell, and a canonical list holds nothing in the others. -/
theorem canonicalMemoryIsDeterminedByItsReads : Obligations.CanonicalMemoryIsDeterminedByItsReads := by
  intro m m' sentinel h h' hread
  refine eq_of_get_eq h h' fun k => ?_
  cases hk : Memory.reachable k with
  | true =>
    rw [← mem_read8_of_reachable m sentinel hk, ← mem_read8_of_reachable m' sentinel hk]
    exact hread _
  | false => rw [get_of_unreachable h hk, get_of_unreachable h' hk]

end Sys2Proof.Proofs

/-! The statements of 30_encoding.md: decoding an encoding, encoding what was decoded, the undefined opcodes, the byte
0xCB, and the grids' words. -/

namespace Sys2Proof.Proofs

open Sys2Proof.Machine Sys2Proof.Laws

/-! ### Decoding an encoding -/

/-- The layout of every row of the table (R110, R124). -/
theorem layout (i : Instr) : Layout.Statement i := by
  cases i <;> rfl

theorem lengthOf_le_three (op : Byte) : lengthOf op ≤ 3 := by
  unfold lengthOf
  split_ifs <;> decide

/-- Decoding takes from a list as many bytes as the first one says (R124), and decodes these. -/
theorem decode_append {bytes : List Byte} (h : bytes.length = lengthOf (bytes.headD 0)) (rest : List Byte) :
    decode (bytes ++ rest) = .ok (decodeBytes (bytes.getD 0 0) (bytes.getD 1 0) (bytes.getD 2 0), rest) := by
  match bytes, h with
  | [op], h | [op, b1], h | [op, b1, b2], h =>
    replace h : _ = lengthOf op := h
    simp [decode, ← h]
  | [], h => cases h
  | op :: _ :: _ :: _ :: _, h =>
    have hle := lengthOf_le_three op
    simp only [List.length_cons, List.headD_cons] at h
    omega

/-- Settles O2: an instruction's bytes are as many as its first byte says, and they decode to it. -/
theorem decodeOfEncodeIsTheInstruction : Obligations.DecodeOfEncodeIsTheInstruction := by
  intro i rest hw
  have hdecode : decodeBytes ((encode i).getD 0 0) ((encode i).getD 1 0) ((encode i).getD 2 0) = i :=
    decodeBytes_of_bytes (bytes := fun k => (encode i).getD k 0) hw fun k b hb => by simp [List.getD, hb]
  rw [decode_append (layout i), hdecode]

/-! ### Encoding what was decoded -/

/-- An instruction of the core whose bytes after the first are the first ones of `b1`, `b2`. -/
def TakesOperands (b1 b2 : Byte) (i : Instr) : Prop := WellFormed i = true ∧ (encode i).tail <+: [b1, b2]

theorem TakesOperands.none {b1 b2 : Byte} {i : Instr} (hw : WellFormed i = true) (h : (encode i).tail = []) :
    TakesOperands b1 b2 i := ⟨hw, by simp [h]⟩

theorem TakesOperands.byte {b1 b2 : Byte} {i : Instr} (hw : WellFormed i = true) (h : (encode i).tail = [b1]) :
    TakesOperands b1 b2 i := ⟨hw, by simp [h]⟩

theorem TakesOperands.word {b1 b2 : Byte} {i : Instr} (hw : WellFormed i = true)
    (h : (encode i).tail = [lo (w16 b2 b1), hi (w16 b2 b1)]) : TakesOperands b1 b2 i := ⟨hw, by simp [h]⟩

/-- Block 0 (R119): first the rows that stand alone, with no, one or two operand bytes, then the families, each by its
operand field. -/
theorem takesOperands_decodeBlock0 (op b1 b2 : Byte) : TakesOperands b1 b2 (decodeBlock0 op b1 b2) := by
  unfold decodeBlock0
  repeat' split
  any_goals exact .none rfl rfl
  any_goals exact .byte rfl rfl
  any_goals exact .word rfl rfl
  · cases condOf (ccField op) <;> exact .byte rfl rfl
  · cases operand16 (pField op) <;> exact .none rfl rfl
  · cases operand16 (pField op) <;> exact .word rfl rfl
  · cases indOf (pField op) <;> exact .none rfl rfl
  · cases indOf (pField op) <;> exact .none rfl rfl
  · cases operand16 (pField op) <;> exact .none rfl rfl
  · cases operand16 (pField op) <;> exact .none rfl rfl
  · rcases operand8 (yField op) with ⟨⟨⟩⟩ | _ <;> exact .none rfl rfl
  · rcases operand8 (yField op) with ⟨⟨⟩⟩ | _ <;> exact .none rfl rfl
  · rcases operand8 (yField op) with ⟨⟨⟩⟩ | _ <;> exact .byte rfl rfl

theorem takesOperands_decodeBlock1 (op b1 b2 : Byte) : TakesOperands b1 b2 (decodeBlock1 op) := by
  unfold decodeBlock1
  rcases operand8 (yField op) with dst | _ <;> rcases operand8 (zField op) with src | _
  · cases dst <;> cases src <;> exact .none rfl rfl
  · cases dst <;> exact .none rfl rfl
  · cases src <;> exact .none rfl rfl
  · exact .none rfl rfl

theorem takesOperands_alu (op : AluOp) (o : Operand8) (b1 b2 : Byte) : TakesOperands b1 b2 (Family.alu op o) := by
  cases op <;> rcases o with ⟨⟨⟩⟩ | _ <;> exact .none rfl rfl

theorem wellFormed_decodeCB (xx : Byte) : WellFormed (decodeCB xx) = true := by
  revert xx; decide

/-- The CB decoder and the encoder agree on all 256 rows (R121). -/
theorem encode_decodeCB (xx : Byte) : encode (decodeCB xx) = [0xCB, xx] := by
  revert xx; decide

/-- Block 3, as block 0; its row 0xCB takes byte 1 as the CB opcode (R125). -/
theorem takesOperands_decodeBlock3 (op b1 b2 : Byte) : TakesOperands b1 b2 (decodeBlock3 op b1 b2) := by
  unfold decodeBlock3
  repeat' split
  any_goals exact .none rfl rfl
  any_goals exact .byte rfl rfl
  any_goals exact .word rfl rfl
  · cases condOf (ccField op) <;> exact .none rfl rfl
  · cases operand16S (pField op) <;> exact .none rfl rfl
  · cases condOf (ccField op) <;> exact .word rfl rfl
  · exact .byte (wellFormed_decodeCB b1) (by rw [encode_decodeCB]; rfl)
  · cases condOf (ccField op) <;> exact .word rfl rfl
  · cases operand16S (pField op) <;> exact .none rfl rfl
  · cases aluOf (yField op) <;> exact .byte rfl rfl
  · generalize (yField op).toFin = t
    fin_cases t <;> exact .none rfl rfl

theorem takesOperands_decodeBytes (op b1 b2 : Byte) : TakesOperands b1 b2 (decodeBytes op b1 b2) := by
  unfold decodeBytes
  split
  · exact takesOperands_decodeBlock0 op b1 b2
  · exact takesOperands_decodeBlock1 op b1 b2
  · exact takesOperands_alu (aluOf (yField op)) (operand8 (zField op)) b1 b2
  · exact takesOperands_decodeBlock3 op b1 b2

/-- Settles O3: the encoding starts with the opcode, goes on with the bytes taken as operands, and is as long as the
opcode says. -/
theorem encodeOfDecodeIsTheBytes : Obligations.EncodeOfDecodeIsTheBytes := by
  intro op b1 b2
  obtain ⟨hw, htail⟩ := takesOperands_decodeBytes op b1 b2
  obtain ⟨operands, hencode⟩ := List.head?_eq_some_iff.1 (encode_decodeBytes_head op b1 b2)
  have hlength : (op :: operands).length = lengthOf op := by
    simpa [Layout.Statement, hencode] using layout (decodeBytes op b1 b2)
  rw [hencode] at htail ⊢
  have hprefix : op :: operands <+: [op, b1, b2] := List.cons_prefix_cons.2 ⟨rfl, htail⟩
  exact ⟨hw, hlength ▸ List.prefix_iff_eq_take.1 hprefix⟩

/-! ### The undefined opcodes -/

theorem isUndefinedByte_byte (u : UndefOp) : isUndefinedByte u.byte = true := by
  cases u <;> rfl

theorem decodeBytes_byte (u : UndefOp) (b1 b2 : Byte) : decodeBytes u.byte b1 b2 = Family.undef u := by
  cases u <;> rfl

theorem exists_byte_eq {op : Byte} (h : isUndefinedByte op = true) : ∃ u : UndefOp, u.byte = op := by
  have hlist : op ∈ [.opD3, .opDB, .opDD, .opE3, .opE4, .opEB, .opEC, .opED, .opF4, .opFC, .opFD].map UndefOp.byte :=
    List.contains_iff_mem.1 h
  obtain ⟨u, -, hu⟩ := List.mem_map.1 hlist
  exact ⟨u, hu⟩

/-- Settles O4: the encoding of what is decoded starts with the opcode, so only an undefined opcode's own byte decodes to
it. -/
theorem elevenOpcodesAreUndefined : Obligations.ElevenOpcodesAreUndefined := by
  refine ⟨fun op b1 b2 u h => ?_, fun op b1 b2 h => ?_, encode_undef⟩
  · have hhead := encode_decodeBytes_head op b1 b2
    rw [h, encode_undef] at hhead
    obtain rfl : u.byte = op := Option.some.inj hhead
    exact ⟨isUndefinedByte_byte u, rfl⟩
  · obtain ⟨u, rfl⟩ := exists_byte_eq h
    exact ⟨u, decodeBytes_byte u b1 b2, rfl⟩

/-! ### The byte 0xCB -/

/-- Settles O5: row 0xCB of block 3 hands byte 1 to the CB decoder, and the term `prefix_CB` runs the same row. -/
theorem prefixRunsTheCBRow : Obligations.PrefixRunsTheCBRow := fun xx _ s =>
  ⟨rfl, exec_prefix_CB xx s, exec_answers (.prefix_CB xx) s⟩

/-! ### The grids' words -/

/-- Settles O1: the nineteen closed words, evaluated. -/
theorem writtenWordsDecode : Obligations.WrittenWordsDecode := by
  unfold Obligations.WrittenWordsDecode
  decide

end Sys2Proof.Proofs

/-! The statements of the flag engine (40_flag_engine.md): the carries of the 8-bit sums, the signed offset to SP, CP,
INC and DEC, DAA, pair arithmetic, and the rotates of A. -/

namespace Sys2Proof.Proofs

open Sys2Proof.Machine Sys2Proof.Laws

/-! ### Carries and borrows -/

/-- A sum below `2k`, `k = m + 1`: its residue mod `k`, with the carry as the next digit. -/
theorem mod_add_carry {m x : Nat} (h : x < 2 * (m + 1)) : x % (m + 1) + (m + 1) * (decide (x > m)).toNat = x := by
  by_cases hx : x > m
  · rw [Nat.mod_eq_sub_mod hx, Nat.mod_eq_of_lt (by omega), decide_eq_true hx, Bool.toNat_true]
    omega
  · rw [Nat.mod_eq_of_lt (by omega), decide_eq_false hx, Bool.toNat_false]
    omega

/-- A difference `r = x - y` mod `k`: the subtrahend makes it the minuend, with the borrow as the next digit. -/
theorem add_eq_add_borrow {k r x y : Nat} (hr : r < k) (hy : y ≤ k) (h : (r + y) % k = x) :
    r + y = x + k * (decide (x < y)).toNat := by
  subst h
  by_cases hk : r + y < k
  · rw [Nat.mod_eq_of_lt hk, decide_eq_false (by omega), Bool.toNat_false]
    omega
  · rw [Nat.mod_eq_sub_mod (by omega), Nat.mod_eq_of_lt (by omega), decide_eq_true (by omega), Bool.toNat_true]
    omega

/-- The carries of `add8` (R161). -/
theorem add8_carries (a b : Byte) (cin : Bool) :
    (add8 a b cin).1.toNat + 256 * (decide (a.toNat + b.toNat + cin.toNat > 255)).toNat = a.toNat + b.toNat + cin.toNat ∧
    (add8 a b cin).1.toNat % 16 + 16 * (decide (lowNibble a + lowNibble b + cin.toNat > 15)).toNat =
      a.toNat % 16 + b.toNat % 16 + cin.toNat := by
  have ha := a.isLt
  have hb := b.isLt
  have hcin := cin.toNat_le
  rw [add8_toNat, lowNibble_eq, lowNibble_eq]
  refine ⟨mod_add_carry (by omega), ?_⟩
  have hlow : (a.toNat + b.toNat + cin.toNat) % 256 % 16 = (a.toNat % 16 + b.toNat % 16 + cin.toNat) % 16 := by omega
  rw [hlow]
  exact mod_add_carry (by omega)

/-- The borrows of `sub8` (R162). -/
theorem sub8_borrows (a b : Byte) (cin : Bool) :
    (sub8 a b cin).1.toNat + b.toNat + cin.toNat =
      a.toNat + 256 * (decide (a.toNat < b.toNat + cin.toNat)).toNat ∧
    (sub8 a b cin).1.toNat % 16 + b.toNat % 16 + cin.toNat =
      a.toNat % 16 + 16 * (decide (lowNibble a < lowNibble b + cin.toNat)).toNat := by
  have hb := b.isLt
  have hcin := cin.toNat_le
  have hdiff := sub8_toNat a b cin
  rw [lowNibble_eq, lowNibble_eq, Nat.add_assoc, Nat.add_assoc]
  exact ⟨add_eq_add_borrow (sub8 a b cin).1.isLt (by omega) (by omega),
    add_eq_add_borrow (Nat.mod_lt _ (by decide)) (by omega) (by omega)⟩

/-- Settles O29: the sum is taken before it is truncated, and the flag is the digit that truncation drops. -/
theorem carriesMakeTheSumExact : Obligations.CarriesMakeTheSumExact := fun a b cin =>
  ⟨⟨_, _, rfl, rfl, add8_carries a b cin⟩, ⟨_, _, rfl, rfl, sub8_borrows a b cin⟩⟩

/-! ### Instructions that write data only -/

@[simp] theorem reg16_report (s : State) (t : Nat) (p : Reg16) : (s.report t).reg16 p = s.reg16 p := by
  cases p <;> rfl

@[simp] theorem reg16_applyFlags (s : State) (fl : FlagRec) (p : Reg16) :
    (s.applyFlags fl).reg16 p = s.reg16 p := by
  cases p <;> rfl

/-- Writing A and F after the fetch. -/
theorem onlyAF_putA (s : State) (r : Byte × FlagRec) (n t : Nat) :
    OnlyAF (n + 1) t s (((s.passBytes (n + 1)).putA r).report t) := by
  apply onlyAF_of_fields
  case hr =>
    intro r' h
    cases r' with
    | a => exact absurd (List.mem_singleton.2 rfl) h
    | _ => simp [State.reg8]
  all_goals simp

/-- Writing F after the fetch. -/
theorem onlyAF_applyFlags (s : State) (fl : FlagRec) (n t : Nat) :
    OnlyAF (n + 1) t s (((s.passBytes (n + 1)).applyFlags fl).report t) := by
  apply onlyAF_of_fields
  case hr => intro r _; simp
  all_goals simp

/-- Writing an operand and F after the fetch. -/
theorem ordinary_writeR8_flags (o : Operand8) (v : Byte) (s : State) (n t : Nat) (fl : FlagRec) :
    Ordinary (n + 1) t s ((((s.passBytes (n + 1)).writeR8 o v).applyFlags fl).report t) := by
  apply ordinary_of_fields <;> simp

theorem setReg16_sp_of_ne {p : Reg16} (h : p ≠ .sp) (v : Word) (s : State) : (s.setReg16 p v).sp = s.sp := by
  cases p with
  | sp => exact absurd rfl h
  | _ => rfl

/-! ### CP -/

theorem encode_alu (op : AluOp) (o : Operand8) : encode (Family.alu op o) = [2#2 ++ op.code ++ o.code] := by
  cases op <;> rcases o with ⟨⟨⟩⟩ | _ <;> rfl

theorem encode_aluImm (op : AluOp) (n : Byte) : encode (Family.aluImm op n) = [3#2 ++ op.code ++ 6#3, n] := by
  cases op <;> rfl

/-- CP applies `sub8`'s record and writes nothing else (R163). -/
theorem cp_flags_frame (v : Byte) (s : State) (n t : Nat) {u : State}
    (hu : u = (aluOn .cp v (s.passBytes (n + 1))).report t) :
    DifferenceFlags s.a v false u ∧ u.a = s.a ∧ OnlyAF (n + 1) t s u := by
  subst hu
  refine ⟨differenceFlags_of_apply (s := s) ?_, ?_, onlyAF_applyFlags s _ n t⟩ <;> simp [aluOn]

/-- Settles O45: the two forms of CP differ in their bytes and their count. -/
theorem cpOnlyCompares : Obligations.CpOnlyCompares := fun s =>
  ⟨fun o => ⟨encode_alu .cp o, _, exec_alu .cp o s, cp_flags_frame _ s 0 _ (by simp)⟩,
    fun n => ⟨encode_aluImm .cp n, _, exec_aluImm .cp n s, cp_flags_frame n s 1 8 rfl⟩⟩

/-! ### INC and DEC of an operand -/

theorem encode_inc8 (o : Operand8) : encode (Family.inc8 o) = [0#2 ++ o.code ++ 4#3] := by
  rcases o with ⟨⟨⟩⟩ | _ <;> rfl

theorem encode_dec8 (o : Operand8) : encode (Family.dec8 o) = [0#2 ++ o.code ++ 5#3] := by
  rcases o with ⟨⟨⟩⟩ | _ <;> rfl

/-- An operand write with a record that keeps C. -/
theorem operandWrite_keepsCarry (o : Operand8) (v : Byte) (z n h : Bool) (s : State) (t : Nat) {u : State}
    (hu : u = (((s.passBytes 1).writeR8 o v).applyFlags ⟨some z, some n, some h, none⟩).report t) :
    WroteOperand o v s u ∧ u.sp = s.sp ∧ FlagsAre z n h s.flagC u ∧ Ordinary 1 t s u := by
  have hf : u.f = (FlagRec.mk (some z) (some n) (some h) none).apply s.f := by simp [hu]
  subst hu
  exact ⟨wroteOperand_writeR8_flags .., by simp, flagsAre_of_apply hf, ordinary_writeR8_flags ..⟩

/-- Settles O46: `inc8` and `dec8` in numbers, and an operand write that keeps C. -/
theorem incDecKeepCarry : Obligations.IncDecKeepCarry := fun o s =>
  ⟨⟨encode_inc8 o, _, exec_inc8 o s, operandWrite_keepsCarry o _ _ _ _ s _ (by simp [inc8_eq])⟩,
    ⟨encode_dec8 o, _, exec_dec8 o s, operandWrite_keepsCarry o _ _ _ _ s _ (by simp [dec8_eq])⟩⟩

/-! ### DAA -/

/-- DAA writes `daa`'s result and record (R288). -/
theorem exec_daa (s : State) : ∃ t, exec .daa s = .next t ∧ OnlyAF 1 4 s t ∧
    t.a = (daa s.a s.flagN s.flagH s.flagC).1 ∧ t.f = (daa s.a s.flagN s.flagH s.flagC).2.apply s.f := by
  refine ⟨_, rfl, onlyAF_putA s _ 0 4, ?_, ?_⟩ <;> simp

/-- DAA's flags: Z of the result, N kept, H cleared, C of the correction (R171). -/
theorem daa_flags {a : Byte} {n h c : Bool} {s t : State} (ha : t.a = (daa a n h c).1)
    (hf : t.f = (daa a n h c).2.apply s.f) :
    FlagsAre (decide (t.a = 0)) s.flagN false (if n then daaSub a h c else daaAdd a h c).2 t := by
  rw [ha]
  exact flagsAre_of_apply hf

/-- Settles O47: N chooses the direction, and the correction of each is known in numbers. -/
theorem daaFollowsTheFormula : Obligations.DaaFollowsTheFormula := by
  intro s
  obtain ⟨t, hexec, hframe, ha, hf⟩ := exec_daa s
  have hflags := daa_flags ha hf
  refine ⟨rfl, t, hexec, hframe, fun hn up mid hup hmid => ?_, fun hn => ?_⟩ <;> rw [hn] at ha hflags
  · obtain ⟨hc, hres⟩ := daaAdd_toNat s.a s.flagH s.flagC up mid hup hmid
    exact ⟨ha ▸ hres, hc ▸ hflags⟩
  · obtain ⟨hc, hres⟩ := daaSub_toNat s.a s.flagH s.flagC
    exact ⟨ha ▸ hres, hc ▸ hflags⟩

/-! ### Pair arithmetic -/

theorem add16_toNat (x y : Word) : (add16 x y).1.toNat = (x.toNat + y.toNat) % 65536 :=
  BitVec.toNat_ofNat ..

theorem encode_addHL (p : Reg16) : encode (Family.addHL p) = [0#2 ++ p.code ++ 9#4] := by
  cases p <;> rfl

theorem encode_inc16 (p : Reg16) : encode (Family.inc16 p) = [0#2 ++ p.code ++ 3#4] := by
  cases p <;> rfl

theorem encode_dec16 (p : Reg16) : encode (Family.dec16 p) = [0#2 ++ p.code ++ 11#4] := by
  cases p <;> rfl

/-- INC rr and DEC rr write a pair and nothing else. -/
theorem pairWrite_frame (p : Reg16) (v : Word) (s : State) (n t : Nat) {u : State}
    (hu : u = ((s.passBytes (n + 1)).setReg16 p v).report t) :
    u.reg16 p = v ∧ RegsExcept p.regs s u ∧ (p ≠ .sp → u.sp = s.sp) ∧ u.f = s.f ∧ SameMem s u ∧
      Ordinary (n + 1) t s u := by
  subst hu
  refine ⟨by simp, fun r h => ?_, fun h => ?_, by simp, sameMem_of_mem (by simp) (by simp), ?_⟩
  · rw [reg8_report, regsExcept_setReg16 _ p v r h, reg8_passBytes]
  · rw [report_sp, setReg16_sp_of_ne h, passBytes_sp]
  · apply ordinary_of_fields <;> simp

/-- The pair instructions that set flags write a pair and F and nothing else. -/
theorem pairWrite_flags_frame (p : Reg16) (v : Word) (fl : FlagRec) (s : State) (n t : Nat) {u : State}
    (hu : u = (((s.passBytes (n + 1)).setReg16 p v).applyFlags fl).report t) :
    u.reg16 p = v ∧ u.f = fl.apply s.f ∧ RegsExcept p.regs s u ∧ (p ≠ .sp → u.sp = s.sp) ∧ SameMem s u ∧
      Ordinary (n + 1) t s u := by
  subst hu
  obtain ⟨_, hregs, hsp, _, hmem, _⟩ := pairWrite_frame p v s n t rfl
  refine ⟨by simp, by simp, fun r h => by simpa using hregs r h, hsp, hmem, ?_⟩
  apply ordinary_of_fields <;> simp

theorem exec_addHL_eq (p : Reg16) (s : State) : exec (Family.addHL p) s = .next
    ((((s.passBytes 1).setReg16 .hl (add16 s.hl (s.reg16 p)).1).applyFlags (add16 s.hl (s.reg16 p)).2).report 8) := by
  simp only [exec_addHL, addHLPair, hl_passBytes, reg16_passBytes, finish_eq, State.setReg16]

/-- Settles O50: each writes a pair; ADD HL,rr writes `add16`'s result to HL and its record to F. -/
theorem pairArithmetic : Obligations.PairArithmetic := by
  intro p s
  obtain ⟨hhl, hf, hregs, hsp, hframe⟩ := pairWrite_flags_frame .hl _ (add16 s.hl (s.reg16 p)).2 s 0 8 rfl
  have hsum := (congrArg BitVec.toNat hhl).trans (add16_toNat s.hl (s.reg16 p))
  exact ⟨⟨encode_addHL p, _, exec_addHL_eq p s, hsum, add16_flags hf, hregs, hsp (by decide), hframe⟩,
    ⟨encode_inc16 p, _, exec_inc16 p s, pairWrite_frame p _ s 0 8 (by simp)⟩,
    ⟨encode_dec16 p, _, exec_dec16 p s, pairWrite_frame p _ s 0 8 (by simp)⟩⟩

/-! ### ADD SP,e8 and LD HL,SP+e8 -/

/-- `addsp`'s result written to a pair and its record to F (R165). -/
theorem addsp_write (p : Reg16) (e : Byte) (s : State) (t : Nat) {u : State}
    (hu : u = (((s.passBytes 2).setReg16 p (addsp s.sp e).1).applyFlags (addsp s.sp e).2).report t) :
    u.reg16 p = s.sp + BitVec.ofInt 16 e.toInt ∧
      FlagsAre false false (decide (s.sp.toNat % 16 + e.toNat % 16 > 15)) (decide (s.sp.toNat % 256 + e.toNat > 255)) u ∧
      RegsExcept p.regs s u ∧ (p ≠ .sp → u.sp = s.sp) ∧ SameMem s u ∧ Ordinary 2 t s u := by
  obtain ⟨hv, hf, hframe⟩ := pairWrite_flags_frame p _ _ s 1 t hu
  rw [← sext16_eq]
  exact ⟨hv, addsp_flags hf, hframe⟩

theorem exec_add_SP_e8_eq (e : Byte) (s : State) : exec (.add_SP_e8 e) s = .next
    ((((s.passBytes 2).setReg16 .sp (addsp s.sp e).1).applyFlags (addsp s.sp e).2).report 16) := by
  show addSPe e s = _
  simp only [addSPe, passBytes_sp, finish_eq, State.setReg16]

theorem exec_ld_HL_SPe8_eq (e : Byte) (s : State) : exec (.ld_HL_SPe8 e) s = .next
    ((((s.passBytes 2).setReg16 .hl (addsp s.sp e).1).applyFlags (addsp s.sp e).2).report 12) := by
  show ldHLSPe e s = _
  simp only [ldHLSPe, passBytes_sp, finish_eq, State.setReg16]

/-- Settles O38: the two instructions differ in the pair they write and in their count. -/
theorem spPlusOffset : Obligations.SpPlusOffset := by
  intro e s
  obtain ⟨hsp, hflagsSP, hregsSP, -, hframeSP⟩ := addsp_write .sp e s 16 rfl
  obtain ⟨hhl, hflagsHL, hregsHL, hspHL, hframeHL⟩ := addsp_write .hl e s 12 rfl
  exact ⟨rfl, rfl, ⟨_, exec_add_SP_e8_eq e s, hsp, hflagsSP, hregsSP, hframeSP⟩,
    ⟨_, exec_ld_HL_SPe8_eq e s, hhl, hflagsHL, hregsHL, hspHL (by decide), hframeHL⟩⟩

/-! ### The rotates of A -/

theorem exec_accumulatorRotate {i : Instr} {op : RotOp}
    (h : (i, op) ∈ [((.rlca : Instr), RotOp.rlc), (.rrca, .rrc), (.rla, .rl), (.rra, .rr)]) (s : State) :
    exec i s = rotateA (rotOn op s.a s.flagC) s := by
  simp only [List.mem_cons, List.not_mem_nil, or_false, Prod.mk.injEq] at h
  rcases h with ⟨rfl, rfl⟩ | ⟨rfl, rfl⟩ | ⟨rfl, rfl⟩ | ⟨rfl, rfl⟩ <;> rfl

/-- Z is forced to 0, and the rest of the record is the rotate's (R167, R168). -/
theorem forceZClear_flags {op : RotOp} {v : Byte} {cin : Bool} {s t : State}
    (hf : t.f = (forceZClear (rotOn op v cin)).2.apply s.f) : FlagsAre false false false (outBit op v) t := by
  rw [forceZClear, rotOn_record] at hf
  exact flagsAre_of_apply hf

/-- Settles O51: a CB rotate's bits on A, with Z forced to 0. -/
theorem accumulatorRotatesClearZ : Obligations.AccumulatorRotatesClearZ := by
  refine fun s => ⟨rfl, rfl, rfl, rfl, fun i op h => ⟨_, exec_accumulatorRotate h s, ?_, ?_, onlyAF_putA s _ 0 4⟩⟩
  · exact fun k hk => rotOn_bit op s.a s.flagC hk
  · exact forceZClear_flags (s := s) (cin := s.flagC) (by simp)

end Sys2Proof.Proofs

/-! The statements of the 8-bit loads and stores (41_loads8.md): the operand forms write one operand; the accumulator
forms access one address and leave HL as it was or moved by 1. -/

namespace Sys2Proof.Proofs

open Sys2Proof.Machine Sys2Proof.Laws

/-! ### Loads into an operand -/

theorem encode_ldRegReg (dst src : Reg8) : encode (Family.ldRegReg dst src) = [1#2 ++ dst.code ++ src.code] := by
  cases dst <;> cases src <;> rfl

theorem encode_ldImm (o : Operand8) (n : Byte) : encode (Family.ldImm o n) = [0#2 ++ o.code ++ 6#3, n] := by
  rcases o with ⟨⟨⟩⟩ | _ <;> rfl

theorem encode_ldRegMem (dst : Reg8) : encode (Family.ldRegMem dst) = [1#2 ++ dst.code ++ 6#3] := by
  cases dst <;> rfl

theorem encode_ldMemReg (src : Reg8) : encode (Family.ldMemReg src) = [1#2 ++ 6#3 ++ src.code] := by
  cases src <;> rfl

/-- An operand write with no flag record. -/
theorem operandWrite_frame (o : Operand8) (v : Byte) (s : State) (n t : Nat) {u : State}
    (hu : u = ((s.passBytes (n + 1)).writeR8 o v).report t) :
    WroteOperand o v s u ∧ u.sp = s.sp ∧ u.f = s.f ∧ Ordinary (n + 1) t s u := by
  subst hu
  refine ⟨wroteOperand_writeR8 .., by simp, by simp, ?_⟩
  apply ordinary_of_fields <;> simp

/-- The same for a register: `WroteOperand` taken apart. -/
theorem registerWrite_frame (r : Reg8) (v : Byte) (s : State) (n t : Nat) {u : State}
    (hu : u = ((s.passBytes (n + 1)).setReg8 r v).report t) :
    u.reg8 r = v ∧ RegsExcept [r] s u ∧ u.sp = s.sp ∧ u.f = s.f ∧ SameMem s u ∧ Ordinary (n + 1) t s u := by
  obtain ⟨⟨hval, hregs, hmem⟩, hsp, hf, hord⟩ := operandWrite_frame (.reg r) v s n t hu
  exact ⟨hval, hregs, hsp, hf, hmem, hord⟩

/-- Settles O30: the source is read after the fetch, which moves no register. -/
theorem ldRegRegCopies : Obligations.LdRegRegCopies := fun dst src s =>
  ⟨encode_ldRegReg dst src, _, exec_ldRegReg dst src s, registerWrite_frame dst _ s 0 4 (by simp)⟩

/-- Settles O31: one operand write; the count is the operand's. -/
theorem ldImmediateByte : Obligations.LdImmediateByte := fun o n s =>
  ⟨encode_ldImm o n, _, exec_ldImm o n s, operandWrite_frame o n s 1 _ (by cases o <;> rfl)⟩

/-- Settles O32: the address is the HL of the state before the register is written. -/
theorem ldRegFromHL : Obligations.LdRegFromHL := fun dst s =>
  ⟨encode_ldRegMem dst, _, exec_ldRegMem dst s, registerWrite_frame dst _ s 0 8 (by simp)⟩

/-- Settles O33: a write of the operand (HL). -/
theorem ldHLFromReg : Obligations.LdHLFromReg := by
  intro src s
  obtain ⟨⟨hstored, hregs⟩, hframe⟩ := operandWrite_frame .memHL (s.reg8 src) s 0 8 rfl
  exact ⟨encode_ldMemReg src, _, by simp [exec_ldMemReg, ldMemReg, State.writeR8], hstored, hregs, hframe⟩

/-! ### HL after an accumulator form -/

/-- HL after the update of R219. -/
def hlAfter (s : State) : IndAddr → Word
  | .bc | .de => s.hl
  | .hlInc => s.hl + 1
  | .hlDec => s.hl - 1

@[simp] theorem setHL_hl (s : State) : s.setHL s.hl = s := by simp [State.setHL, State.hl]

/-- The update writes HL, with the value it held where the form has no update. -/
theorem indUpdate_eq (x : IndAddr) (s : State) : s.indUpdate x = s.setHL (hlAfter s x) := by
  cases x with
  | bc | de => exact (setHL_hl s).symm
  | hlInc | hlDec => rfl

/-- Writing HL at the end leaves the other registers as they were. -/
theorem regsExcept_setHL_report {l : List Reg8} {s w : State} (h : RegsExcept l s w) (v : Word) (t : Nat) :
    RegsExcept (l ++ [.h, .l]) s ((w.setHL v).report t) := by
  intro r hr
  obtain ⟨hl, hhl⟩ := not_or.1 (List.mem_append.not.1 hr)
  rw [reg8_report]
  exact (regsExcept_setReg16 w .hl v r hhl).trans (h r hl)

/-! ### The accumulator loads -/

theorem exec_ldAInd_eq (x : IndAddr) (s : State) : exec (Family.ldAInd x) s = .next
    ((((s.passBytes 1).setReg8 .a (s.read8 (s.indAddr x))).setHL (hlAfter s x)).report 8) := by
  rw [exec_ldAInd, ldAInd, finish_eq, indUpdate_eq]
  cases x <;> rfl

theorem ldAFrom_eq (n t : Nat) (addr : Word) (s : State) : ldAFrom n t addr s = .next
    ((((s.passBytes n).setReg8 .a (s.read8 addr)).setHL s.hl).report t) := by
  have hhl : ((s.passBytes n).setReg8 .a (s.read8 addr)).hl = s.hl := hl_passBytes s n
  rw [← hhl, setHL_hl, ← read8_passBytes s n addr]
  rfl

/-- An accumulator load writes A and HL. -/
theorem accumulatorLoad_frame (v : Byte) (hl' : Word) (s : State) (n t : Nat) {u : State}
    (hu : u = (((s.passBytes (n + 1)).setReg8 .a v).setHL hl').report t) :
    u.a = v ∧ u.hl = hl' ∧ RegsExcept [.a, .h, .l] s u ∧ u.sp = s.sp ∧ u.f = s.f ∧ SameMem s u ∧
      Ordinary (n + 1) t s u := by
  subst hu
  have hregs : RegsExcept [.a] s ((s.passBytes (n + 1)).setReg8 .a v) := fun r hr => by
    simp [reg8_setReg8, List.mem_singleton.not.1 hr]
  refine ⟨rfl, w16_hi_lo hl', regsExcept_setHL_report hregs hl' t, by simp, by simp,
    sameMem_of_mem (by simp) (by simp), ?_⟩
  apply ordinary_of_fields <;> simp

/-- Settles O34: the two kinds of form, row by row. -/
theorem accumulatorLoads : Obligations.AccumulatorLoads := by
  refine fun s n a => ⟨rfl, rfl, rfl, rfl, rfl, rfl, rfl, fun i len cyc addr hl' h => ?_⟩
  simp only [List.mem_cons, List.not_mem_nil, or_false] at h
  rcases h with h | h | h | h | h | h | h <;> cases h
  · exact ⟨_, exec_ldAInd_eq .bc s, accumulatorLoad_frame _ _ s 0 8 rfl⟩
  · exact ⟨_, exec_ldAInd_eq .de s, accumulatorLoad_frame _ _ s 0 8 rfl⟩
  · exact ⟨_, exec_ldAInd_eq .hlInc s, accumulatorLoad_frame _ _ s 0 8 rfl⟩
  · exact ⟨_, exec_ldAInd_eq .hlDec s, accumulatorLoad_frame _ _ s 0 8 rfl⟩
  · exact ⟨_, ldAFrom_eq 3 16 _ s, accumulatorLoad_frame _ _ s 2 16 rfl⟩
  · exact ⟨_, ldAFrom_eq 1 8 (highPage s.c) s, accumulatorLoad_frame _ _ s 0 8 rfl⟩
  · exact ⟨_, ldAFrom_eq 2 12 (highPage n) s, accumulatorLoad_frame _ _ s 1 12 rfl⟩

/-! ### The accumulator stores -/

theorem exec_ldIndA_eq (x : IndAddr) (s : State) : exec (Family.ldIndA x) s = .next
    ((((s.passBytes 1).write8 (s.indAddr x) s.a).setHL (hlAfter s x)).report 8) := by
  rw [exec_ldIndA, ldIndA, finish_eq, indUpdate_eq]
  cases x <;> rfl

theorem ldAInto_eq (n t : Nat) (addr : Word) (s : State) : ldAInto n t addr s = .next
    ((((s.passBytes n).write8 addr s.a).setHL s.hl).report t) := by
  have hhl : ((s.passBytes n).write8 addr s.a).hl = s.hl := hl_passBytes s n
  rw [← hhl, setHL_hl, ← passBytes_a s n]
  rfl

/-- An accumulator store writes memory and HL. -/
theorem accumulatorStore_frame (addr : Word) (v : Byte) (hl' : Word) (s : State) (n t : Nat) {u : State}
    (hu : u = (((s.passBytes (n + 1)).write8 addr v).setHL hl').report t) :
    StoredAt addr v s u ∧ u.hl = hl' ∧ RegsExcept [.h, .l] s u ∧ u.sp = s.sp ∧ u.f = s.f ∧
      Ordinary (n + 1) t s u := by
  subst hu
  have hregs : RegsExcept [] s ((s.passBytes (n + 1)).write8 addr v) := fun r _ => by simp
  refine ⟨storedAt_of_mem (by simp) (by simp), w16_hi_lo hl', regsExcept_setHL_report hregs hl' t, by simp, by simp, ?_⟩
  apply ordinary_of_fields <;> simp

/-- Settles O35: the two kinds of form, row by row. -/
theorem accumulatorStores : Obligations.AccumulatorStores := by
  refine fun s n a => ⟨rfl, rfl, rfl, rfl, rfl, rfl, rfl, fun i len cyc addr hl' h => ?_⟩
  simp only [List.mem_cons, List.not_mem_nil, or_false] at h
  rcases h with h | h | h | h | h | h | h <;> cases h
  · exact ⟨_, exec_ldIndA_eq .bc s, accumulatorStore_frame _ _ _ s 0 8 rfl⟩
  · exact ⟨_, exec_ldIndA_eq .de s, accumulatorStore_frame _ _ _ s 0 8 rfl⟩
  · exact ⟨_, exec_ldIndA_eq .hlInc s, accumulatorStore_frame _ _ _ s 0 8 rfl⟩
  · exact ⟨_, exec_ldIndA_eq .hlDec s, accumulatorStore_frame _ _ _ s 0 8 rfl⟩
  · exact ⟨_, ldAInto_eq 3 16 _ s, accumulatorStore_frame _ _ _ s 2 16 rfl⟩
  · exact ⟨_, ldAInto_eq 1 8 (highPage s.c) s, accumulatorStore_frame _ _ _ s 0 8 rfl⟩
  · exact ⟨_, ldAInto_eq 2 12 (highPage n) s, accumulatorStore_frame _ _ _ s 1 12 rfl⟩

end Sys2Proof.Proofs

/-! The statements of the 16-bit loads and the stack (42_loads16_stack.md): a load writes one pair, a store or a push
writes two bytes to different cells, and a pop reads the word that a push left. -/

namespace Sys2Proof.Proofs

open Sys2Proof.Machine Sys2Proof.Laws

/-! ### LD rr,d16 and LD SP,HL -/

theorem encode_ldReg16Imm (p : Reg16) (v : Word) :
    encode (Family.ldReg16Imm p v) = [0#2 ++ p.code ++ 1#4, lo v, hi v] := by
  cases p <;> rfl

theorem exec_ld_SP_HL (s : State) :
    exec .ld_SP_HL s = .next (((s.passBytes 1).setReg16 .sp s.hl).report 8) := by
  show ldSPHL s = _
  simp only [ldSPHL, hl_passBytes, finish_eq, State.setReg16]

/-- Settles O36: each form writes one pair; LD SP,HL writes SP with the HL of the state before. -/
theorem loadsOfPairs : Obligations.LoadsOfPairs := by
  refine ⟨fun p v s => ⟨encode_ldReg16Imm p v, _, exec_ldReg16Imm p v s, pairWrite_frame p v s 2 12 rfl⟩, fun s => ?_⟩
  obtain ⟨hsp, hregs, -, hf, hmem, hord⟩ := pairWrite_frame .sp s.hl s 0 8 rfl
  exact ⟨rfl, _, exec_ld_SP_HL s, hsp, hregs, hf, hmem, hord⟩

/-! ### LD (a16),SP -/

@[simp] theorem reg8_write16 (s : State) (a v : Word) (r : Reg8) : (s.write16 a v).reg8 r = s.reg8 r := by
  cases r <;> rfl

/-- A word store changes two bytes of memory and nothing else. -/
theorem wordStore_frame (a v : Word) (s : State) (n t : Nat) {u : State}
    (hu : u = ((s.passBytes (n + 1)).write16 a v).report t) :
    StoredTwo a (lo v) (a + 1) (hi v) s u ∧ RegsExcept [] s u ∧ u.sp = s.sp ∧ u.f = s.f ∧ Ordinary (n + 1) t s u := by
  subst hu
  refine ⟨storedTwo_of_mem (mapAddr_ne_succ a).symm (by simp) (by simp), fun r _ => by simp, by simp, by simp, ?_⟩
  apply ordinary_of_fields <;> simp

/-- Settles O37: SP, which the fetch does not move, is stored as a word. -/
theorem ldMemSPStoresBothBytes : Obligations.LdMemSPStoresBothBytes := fun a s =>
  ⟨rfl, _, rfl, wordStore_frame a s.sp s 2 20 (by simp)⟩

/-! ### PUSH -/

theorem encode_push (p : Reg16S) : encode (Family.push p) = [3#2 ++ p.code ++ 5#4] := by
  cases p <;> rfl

/-- A push changes SP and the two bytes below it. -/
theorem push_frame (v : Word) (s : State) (n t : Nat) {u : State}
    (hu : u = ((s.passBytes (n + 1)).push16 v).report t) :
    PushedAt s.sp v s u ∧ u.sp = s.sp - 2 ∧ RegsExcept [] s u ∧ u.f = s.f ∧ Ordinary (n + 1) t s u := by
  subst hu
  refine ⟨pushedAt_of_mem (by simp) (by simp), by simp, fun r _ => by simp, by simp, ?_⟩
  apply ordinary_of_fields <;> simp

/-- Settles O39: the pair is read after the fetch, which moves no register. -/
theorem pushStoresThePair : Obligations.PushStoresThePair := fun p s =>
  ⟨encode_push p, _, exec_push p s, push_frame (s.reg16S p) s 0 16 (by simp)⟩

/-! ### POP -/

theorem encode_pop (p : Reg16S) : encode (Family.pop p) = [3#2 ++ p.code ++ 1#4] := by
  cases p <;> rfl

/-- Of the stack pairs only AF holds F. -/
theorem setReg16S_f_of_ne {p : Reg16S} (h : p ≠ .af) (s : State) (v : Word) : (s.setReg16S p v).f = s.f := by
  cases p with
  | bc | de | hl => rfl
  | af => exact absurd rfl h

theorem exec_pop_eq (p : Reg16S) (s : State) :
    exec (Family.pop p) s = .next (((s.passBytes 1).pop16.2.setReg16S p (stackTop s)).report 12) := by
  rw [exec_pop, popPair, pop16_passBytes_fst, finish_eq]

/-- A pop changes SP and a pair. -/
theorem pop_frame (p : Reg16S) (v : Word) (s : State) (n t : Nat) {u : State}
    (hu : u = ((s.passBytes (n + 1)).pop16.2.setReg16S p v).report t) :
    u.reg16S p = (if p = .af then v &&& 0xFFF0 else v) ∧ u.sp = s.sp + 2 ∧ RegsExcept p.regs s u ∧
      (p ≠ .af → u.f = s.f) ∧ SameMem s u ∧ Ordinary (n + 1) t s u := by
  subst hu
  refine ⟨reg16S_setReg16S _ p v, by simp, fun r hr => ?_, fun hp => ?_, sameMem_of_mem (by simp) (by simp), ?_⟩
  · rw [reg8_report, regsExcept_setReg16S _ p v r hr, reg8_pop16, reg8_passBytes]
  · rw [report_f, setReg16S_f_of_ne hp, pop16_f, passBytes_f]
  · apply ordinary_of_fields <;> simp

/-- Settles O40: the word on the stack, which the fetch does not change, is written to the pair. -/
theorem popLoadsThePair : Obligations.PopLoadsThePair := fun p s =>
  ⟨encode_pop p, _, exec_pop_eq p s, pop_frame p (stackTop s) s 0 12 rfl⟩

/-! ### PUSH then POP -/

/-- A pushed word is on the stack, unless a byte of it was lost in the unusable range (R246). -/
theorem stackTop_of_pushedAt {s t : State} {sp v : Word} (h : PushedAt sp v s t) (hsp : t.sp = sp - 2)
    (h1 : unusable (sp - 1).toNat = false) (h2 : unusable (sp - 2).toNat = false) : stackTop t = v := by
  have hne : mapAddr (sp - 2) ≠ mapAddr (sp - 1) := by
    rw [← sub_two_add_one]
    exact (mapAddr_ne_succ (sp - 2)).symm
  obtain ⟨hhi, hlo⟩ := storedTwo_read8 h hne h1 h2
  rw [stackTop, hsp, sub_two_add_one, hhi, hlo, w16_hi_lo]

/-- Settles O41: the pop reads the word that the push left. -/
theorem stackRoundTrip : Obligations.StackRoundTrip := by
  intro p q s h1 h2
  obtain ⟨-, t, hpush, hpushed, hsp, -⟩ := pushStoresThePair p s
  obtain ⟨-, u, hpop, hval, hsp', -⟩ := popLoadsThePair q t
  rw [stackTop_of_pushedAt hpushed hsp h1 h2] at hval
  exact ⟨t, u, hpush, hpop, by rw [hsp', hsp, BitVec.sub_add_cancel], hval⟩

end Sys2Proof.Proofs

/-! The statements of 8-bit arithmetic and logic (43_alu8.md): the seven operations that write A and F, decimal
arithmetic with DAA, and CPL, SCF and CCF. -/

namespace Sys2Proof.Proofs

open Sys2Proof.Machine Sys2Proof.Laws

/-! ### The operations that write A and F -/

/-- A result written to A and its record to F after the fetch. -/
theorem putA_frame (r : Byte × FlagRec) (s : State) (n t : Nat) {u : State}
    (hu : u = ((s.passBytes (n + 1)).putA r).report t) :
    u.a = r.1 ∧ u.f = r.2.apply s.f ∧ OnlyAF (n + 1) t s u := by
  subst hu
  exact ⟨by simp, by simp, onlyAF_putA s r n t⟩

/-- The register, (HL) and d8 forms of an operation that puts `r v` into A and F: each leaves what every state with that
result and record satisfies. -/
theorem alu_forms {op : AluOp} {s : State} {r : Byte → Byte × FlagRec} {P : Byte → State → Prop}
    (hop : ∀ v n, aluOn op v (s.passBytes n) = (s.passBytes n).putA (r v))
    (hP : ∀ v t, t.a = (r v).1 → t.f = (r v).2.apply s.f → P v t) :
    (∀ o : Operand8, encode (Family.alu op o) = [2#2 ++ op.code ++ o.code] ∧
      ∃ t, exec (Family.alu op o) s = .next t ∧ P (s.readR8 o) t ∧ OnlyAF 1 (cyclesOn o 4 8) s t) ∧
    (∀ n : Byte, encode (Family.aluImm op n) = [3#2 ++ op.code ++ 6#3, n] ∧
      ∃ t, exec (Family.aluImm op n) s = .next t ∧ P n t ∧ OnlyAF 2 8 s t) := by
  refine ⟨fun o => ⟨encode_alu op o, ?_⟩, fun n => ⟨encode_aluImm op n, ?_⟩⟩
  · obtain ⟨ha, hf, hframe⟩ := putA_frame (r (s.readR8 o)) s 0 (cyclesOn o 4 8) rfl
    exact ⟨_, by simp [exec_alu, aluOperand, hop], hP _ _ ha hf, hframe⟩
  · obtain ⟨ha, hf, hframe⟩ := putA_frame (r n) s 1 8 rfl
    exact ⟨_, by simp [exec_aluImm, aluImm, hop], hP _ _ ha hf, hframe⟩

/-! ### ADD, ADC, SUB and SBC -/

theorem aluOn_sum {op : AluOp} {cin : Bool} {s : State} (h : (op = .add ∧ cin = false) ∨ (op = .adc ∧ cin = s.flagC))
    (v : Byte) (n : Nat) : aluOn op v (s.passBytes n) = (s.passBytes n).putA (add8 s.a v cin) := by
  rcases h with ⟨rfl, rfl⟩ | ⟨rfl, rfl⟩ <;> simp [aluOn]

theorem aluOn_difference {op : AluOp} {cin : Bool} {s : State}
    (h : (op = .sub ∧ cin = false) ∨ (op = .sbc ∧ cin = s.flagC)) (v : Byte) (n : Nat) :
    aluOn op v (s.passBytes n) = (s.passBytes n).putA (sub8 s.a v cin) := by
  rcases h with ⟨rfl, rfl⟩ | ⟨rfl, rfl⟩ <;> simp [aluOn]

/-- Settles O42: both put `add8`'s result and record. -/
theorem addAndAdcGiveTheSum : Obligations.AddAndAdcGiveTheSum := fun _ _ _ h =>
  alu_forms (aluOn_sum h) fun _ _ => sumInA_of_apply

/-- Settles O43: both put `sub8`'s result and record. -/
theorem subAndSbcGiveTheDifference : Obligations.SubAndSbcGiveTheDifference := by
  intro op cin s h
  simpa only [and_assoc] using alu_forms (aluOn_difference h)
    (P := fun v t => (t.a.toNat + v.toNat + cin.toNat) % 256 = s.a.toNat ∧ DifferenceFlags s.a v cin t)
    fun v t ha hf => ⟨ha ▸ sub8_toNat s.a v cin, differenceFlags_of_apply hf⟩

/-! ### AND, XOR and OR -/

/-- Each of the three is one of `logic`'s operations, which works bit by bit (R166). -/
theorem aluOn_logic {op : AluOp} {g : Bool → Bool → Bool}
    (h : (op = .and ∧ g = and) ∨ (op = .xor ∧ g = xor) ∨ (op = .or ∧ g = or)) (s : State) :
    ∃ l, (∀ v n, aluOn op v (s.passBytes n) = (s.passBytes n).putA (logic l s.a v)) ∧
      (∀ a v k, (logic l a v).1.getLsbD k = g (a.getLsbD k) (v.getLsbD k)) ∧ (l = .and ↔ op = .and) := by
  rcases h with ⟨rfl, rfl⟩ | ⟨rfl, rfl⟩ | ⟨rfl, rfl⟩
  · exact ⟨.and, by simp [aluOn], by simp [logic], by decide⟩
  · exact ⟨.xor, by simp [aluOn], by simp [logic], by decide⟩
  · exact ⟨.or, by simp [aluOn], by simp [logic], by decide⟩

theorem logic_flags {l : LogicOp} {x y : Byte} {s t : State} (ha : t.a = (logic l x y).1)
    (hf : t.f = (logic l x y).2.apply s.f) : FlagsAre (decide (t.a = 0)) false (decide (l = .and)) false t := by
  rw [ha]
  exact flagsAre_of_apply hf

/-- Settles O44: the three put `logic`'s result and record. -/
theorem logicWorksBitByBit : Obligations.LogicWorksBitByBit := by
  intro op g s h
  obtain ⟨l, hput, hbit, hand⟩ := aluOn_logic h s
  simpa only [and_assoc] using alu_forms hput
    (P := fun v t => (∀ k, k < 8 → t.a.getLsbD k = g (s.a.getLsbD k) (v.getLsbD k)) ∧
      FlagsAre (decide (t.a = 0)) false (decide (op = .and)) false t)
    fun v t ha hf => ⟨fun k _ => ha ▸ hbit s.a v k, by simpa only [hand] using logic_flags ha hf⟩

/-! ### CPL, SCF and CCF -/

/-- The complement of a byte, in numbers (R172). -/
theorem cplOf_toNat (a : Byte) : (cplOf a).1.toNat = 255 - a.toNat := by
  have h : (cplOf a).1 = ~~~a := BitVec.xor_allOnes
  rw [h, BitVec.toNat_not]

/-- A record written to F after the fetch. -/
theorem applyFlags_frame (fl : FlagRec) (s : State) (n t : Nat) {u : State}
    (hu : u = ((s.passBytes (n + 1)).applyFlags fl).report t) :
    u.a = s.a ∧ FlagsAre (fl.z.getD s.flagZ) (fl.n.getD s.flagN) (fl.h.getD s.flagH) (fl.c.getD s.flagC) u ∧
      OnlyAF (n + 1) t s u := by
  subst hu
  exact ⟨by simp, flagsAre_of_apply (by simp), onlyAF_applyFlags s fl n t⟩

theorem exec_ccf (s : State) : exec .ccf s = .next (((s.passBytes 1).applyFlags (ccfRec s.flagC)).report 4) := by
  show complementCarry s = _
  simp only [complementCarry, flagC_passBytes, finish_eq]

theorem exec_cpl (s : State) : exec .cpl s = .next (((s.passBytes 1).putA (cplOf s.a)).report 4) := by
  show cplA s = _
  simp only [cplA, passBytes_a, finish_eq]

/-- Settles O49: CPL puts a result and a record, SCF and CCF apply a record. -/
theorem complementAndCarryOperations : Obligations.ComplementAndCarryOperations := by
  intro s
  obtain ⟨ha, hf, hframe⟩ := putA_frame (cplOf s.a) s 0 4 rfl
  exact ⟨rfl, rfl, rfl, ⟨_, exec_cpl s, ha ▸ cplOf_toNat s.a, flagsAre_of_apply hf, hframe⟩,
    ⟨_, rfl, applyFlags_frame scfRec s 0 4 rfl⟩, ⟨_, exec_ccf s, applyFlags_frame (ccfRec s.flagC) s 0 4 rfl⟩⟩

/-! ### Decimal arithmetic -/

/-- The digits of a BCD byte. -/
theorem digits_of_isBCD {v : Byte} (h : isBCD v = true) :
    ∃ q r, q ≤ 9 ∧ r ≤ 9 ∧ v.toNat = 16 * q + r ∧ decimal v = 10 * q + r := by
  obtain ⟨hq, hr⟩ : v.toNat / 16 ≤ 9 ∧ v.toNat % 16 ≤ 9 := by simpa [isBCD] using h
  exact ⟨_, _, hq, hr, (Nat.div_add_mod ..).symm, rfl⟩

theorem bcd_of_digits {v : Byte} {q r : Nat} (hq : q ≤ 9) (hr : r ≤ 9) (h : v.toNat = 16 * q + r) :
    isBCD v = true ∧ decimal v = 10 * q + r := by
  have hdiv : v.toNat / 16 = q := by omega
  have hmod : v.toNat % 16 = r := by omega
  simp [isBCD, decimal, hdiv, hmod, hq, hr]

/-- In a sum `16 * q + r` of two BCD bytes, `q` and `r` being the sums of their digits, DAA's 0x60 test is the decimal
carry (R171). -/
theorem daa_high_test {q r : Nat} (hq : q ≤ 18) (hr : r ≤ 18) :
    (decide (16 * q + r > 255) || decide ((16 * q + r) % 256 > 0x99)) = decide (10 * q + r > 99) := by
  rw [← Bool.decide_or, decide_eq_decide]
  omega

/-- DAA's 0x06 test is the carry out of the low digit. -/
theorem daa_low_test {r mid : Nat} (hr : r ≤ 18) (hmid : mid % 16 = r % 16) :
    (decide (r > 15) || decide (mid % 16 > 9)) = decide (r > 9) := by
  rw [← Bool.decide_or, decide_eq_decide]
  omega

/-- The corrected sum has the decimal sum's digits: each carry takes 10 from its digit. -/
theorem daa_corrected_sum {q r : Nat} (hq : q ≤ 18) (hr : r ≤ 18) : ∃ q' r', q' ≤ 9 ∧ r' ≤ 9 ∧
    (((16 * q + r) % 256 + if 10 * q + r > 99 then 0x60 else 0) % 256 + if r > 9 then 0x06 else 0) % 256 =
      16 * q' + r' ∧ 10 * q' + r' = (10 * q + r) % 100 := by
  by_cases hlow : r > 9 <;> by_cases hhigh : 10 * q + r > 99 <;> simp only [hlow, hhigh, if_true, if_false]
  · exact ⟨q + 1 - 10, r - 10, by omega⟩
  · exact ⟨q + 1, r - 10, by omega⟩
  · exact ⟨q - 10, r, by omega⟩
  · exact ⟨q, r, by omega⟩

/-- The corrected difference has the decimal difference's digits: each borrow gives 10 to its digit. -/
theorem daa_corrected_difference {q r q' r' diff x : Nat} (hq : q ≤ 9) (hr : r ≤ 9) (hq' : q' ≤ 9) (hr' : r' ≤ 9)
    (hdiff : (diff + (16 * q' + r')) % 256 = 16 * q + r) (hx : x < 256)
    (hcorr : (x + (if 16 * q + r < 16 * q' + r' then 0x60 else 0) + if r < r' then 0x06 else 0) % 256 = diff) :
    ∃ q'' r'', q'' ≤ 9 ∧ r'' ≤ 9 ∧ x = 16 * q'' + r'' ∧ (10 * q'' + r'' + (10 * q' + r')) % 100 = 10 * q + r := by
  subst hcorr
  by_cases hlow : r < r' <;> by_cases hhigh : 16 * q + r < 16 * q' + r' <;>
    simp only [hlow, hhigh, if_true, if_false] at hdiff
  · exact ⟨q + 10 - q' - 1, r + 10 - r', by omega⟩
  · exact ⟨q - q' - 1, r + 10 - r', by omega⟩
  · exact ⟨q + 10 - q', r - r', by omega⟩
  · exact ⟨q - q', r - r', by omega⟩

/-- DAA after an add of BCD bytes. -/
theorem daa_after_sum {x y : Byte} {t : State} (hx : isBCD x = true) (hy : isBCD y = true) (h : SumInA x y false t) :
    ∃ u, exec .daa t = .next u ∧ isBCD u.a = true ∧ decimal u.a = (decimal x + decimal y) % 100 ∧
      u.flagC = decide (decimal x + decimal y > 99) := by
  obtain ⟨q, r, hq, hr, hx, hdx⟩ := digits_of_isBCD hx
  obtain ⟨q', r', hq', hr', hy, hdy⟩ := digits_of_isBCD hy
  obtain ⟨hsum, hflags⟩ := h
  obtain ⟨-, u, hexec, -, hadd, -⟩ := daaFollowsTheFormula t
  obtain ⟨hres, hu⟩ := hadd hflags.n _ _ rfl rfl
  have hbytes : x.toNat + y.toNat + false.toNat = 16 * (q + q') + (r + r') := by rw [hx, hy, Bool.toNat_false]; omega
  have hnibbles : x.toNat % 16 + y.toNat % 16 + false.toNat = r + r' := by rw [hx, hy, Bool.toNat_false]; omega
  have hdec : decimal x + decimal y = 10 * (q + q') + (r + r') := by omega
  have hcarry : (t.flagC || decide (t.a.toNat > 0x99)) = decide (10 * (q + q') + (r + r') > 99) := by
    rw [hflags.c, hsum, hbytes, daa_high_test (by omega) (by omega)]
  have hlow (p : Prop) [Decidable p] : (t.a.toNat + if p then 0x60 else 0) % 256 % 16 = (r + r') % 16 := by
    rw [hsum, hbytes]
    split <;> omega
  rw [hcarry, hflags.h, hnibbles, daa_low_test (by omega) (hlow _), hsum, hbytes] at hres
  simp only [decide_eq_true_eq] at hres
  obtain ⟨a, b, ha, hb, hdigits, hmod⟩ := daa_corrected_sum (q := q + q') (r := r + r') (by omega) (by omega)
  obtain ⟨hbcd, hval⟩ := bcd_of_digits ha hb (hres.trans hdigits)
  exact ⟨u, hexec, hbcd, by rw [hval, hmod, hdec], by rw [hu.c, hcarry, hdec]⟩

/-- DAA after a subtract of BCD bytes. -/
theorem daa_after_difference {x y : Byte} {t : State} (hx : isBCD x = true) (hy : isBCD y = true)
    (hdiff : (t.a.toNat + y.toNat + false.toNat) % 256 = x.toNat) (hflags : DifferenceFlags x y false t) :
    ∃ u, exec .daa t = .next u ∧ isBCD u.a = true ∧ (decimal u.a + decimal y) % 100 = decimal x ∧
      u.flagC = decide (decimal x < decimal y) := by
  obtain ⟨q, r, hq, hr, hx, hdx⟩ := digits_of_isBCD hx
  obtain ⟨q', r', hq', hr', hy, hdy⟩ := digits_of_isBCD hy
  obtain ⟨-, u, hexec, -, -, hsub⟩ := daaFollowsTheFormula t
  obtain ⟨hres, hu⟩ := hsub hflags.n
  have hborrow : t.flagC = decide (16 * q + r < 16 * q' + r') := by rw [hflags.c, hx, hy]; rfl
  have hhalf : t.flagH = decide (r < r') := by
    rw [hflags.h, decide_eq_decide, hx, hy, Bool.toNat_false]
    omega
  rw [hx, hy] at hdiff
  simp only [hborrow, hhalf, decide_eq_true_eq] at hres
  obtain ⟨a, b, ha, hb, hdigits, hmod⟩ := daa_corrected_difference hq hr hq' hr' hdiff u.a.isLt hres
  obtain ⟨hbcd, hval⟩ := bcd_of_digits ha hb hdigits
  refine ⟨u, hexec, hbcd, by rw [hval, hdx, hdy, hmod], ?_⟩
  rw [hu.c, hborrow, hdx, hdy, decide_eq_decide]
  omega

/-- Settles O48: the flags that ADD and SUB leave tell DAA which digits to correct. -/
theorem daaGivesTheDecimalResult : Obligations.DaaGivesTheDecimalResult := by
  intro o s ha ho
  obtain ⟨-, t, hadd, hsum, -⟩ := (addAndAdcGiveTheSum .add false s (.inl ⟨rfl, rfl⟩)).1 o
  obtain ⟨-, t', hsub, hdiff, hflags, -⟩ := (subAndSbcGiveTheDifference .sub false s (.inl ⟨rfl, rfl⟩)).1 o
  obtain ⟨u, hu⟩ := daa_after_sum ha ho hsum
  obtain ⟨u', hu'⟩ := daa_after_difference ha ho hdiff hflags
  exact ⟨⟨t, u, hadd, hu⟩, ⟨t', u', hsub, hu'⟩⟩

end Sys2Proof.Proofs

/-! The statements of the CB block (45_rotate_shift_bit.md): the rotates, shifts and SWAP write an operand and F, BIT
writes F, and RES and SET write an operand. -/

namespace Sys2Proof.Proofs

open Sys2Proof.Machine Sys2Proof.Laws

/-! ### The encodings of the four rows -/

theorem encode_rot (op : RotOp) (o : Operand8) : encode (Family.rot op o) = [0xCB, 0#2 ++ op.code ++ o.code] := by
  cases op <;> rcases o with ⟨⟨⟩⟩ | _ <;> rfl

theorem encode_bit (b : Fin 8) (o : Operand8) :
    encode (Family.bit b o) = [0xCB, 1#2 ++ (BitVec.ofFin b : BitVec 3) ++ o.code] := by
  fin_cases b <;> rcases o with ⟨⟨⟩⟩ | _ <;> rfl

theorem encode_res (b : Fin 8) (o : Operand8) :
    encode (Family.res b o) = [0xCB, 2#2 ++ (BitVec.ofFin b : BitVec 3) ++ o.code] := by
  fin_cases b <;> rcases o with ⟨⟨⟩⟩ | _ <;> rfl

theorem encode_set (b : Fin 8) (o : Operand8) :
    encode (Family.set b o) = [0xCB, 3#2 ++ (BitVec.ofFin b : BitVec 3) ++ o.code] := by
  fin_cases b <;> rcases o with ⟨⟨⟩⟩ | _ <;> rfl

/-! ### The rotates, shifts and SWAP -/

/-- A state whose F is a shift's record applied to the earlier F: Z from the result, C the bit out (R168). -/
theorem shiftRec_flags {res : Byte} {out : Bool} {s t : State} (hf : t.f = (shiftRec res out).apply s.f) :
    FlagsAre (decide (res = 0)) false false out t := flagsAre_of_apply hf

/-- A CB rotate, shift or SWAP replaces its operand by the moved bits and writes F (R168, R169). -/
theorem rot_frame (op : RotOp) (o : Operand8) (s : State) : ∃ t res, exec (Family.rot op o) s = .next t ∧
    (∀ k, k < 8 → res.getLsbD k = movedBit op (s.readR8 o) s.flagC k) ∧ WroteOperand o res s t ∧
    FlagsAre (decide (res = 0)) false false (outBit op (s.readR8 o)) t ∧ t.sp = s.sp ∧
    Ordinary 2 (cyclesOn o 8 16) s t := by
  have hexec := exec_rot op o s
  simp only [cbRotate, readR8_passBytes, flagC_passBytes, rotOn_record, finish_eq] at hexec
  exact ⟨_, _, hexec, fun k hk => rotOn_bit op (s.readR8 o) s.flagC hk, wroteOperand_writeR8_flags ..,
    shiftRec_flags (s := s) (by simp), by simp, ordinary_writeR8_flags ..⟩

/-- Settles O52: the operand is a register. -/
theorem cbRotatesOfRegisters : Obligations.CbRotatesOfRegisters := by
  intro op r s
  obtain ⟨t, _, hexec, hbits, ⟨rfl, hregs, hmem⟩, hflags, hsp, hord⟩ := rot_frame op (.reg r) s
  exact ⟨encode_rot op (.reg r), t, hexec, hbits, hflags, hregs, hsp, hmem, hord⟩

/-- Settles O53: the operand is (HL), stored through the map. -/
theorem cbRotatesOfMemory : Obligations.CbRotatesOfMemory := by
  intro op s
  obtain ⟨t, res, hexec, hbits, ⟨hstored, hregs⟩, hflags, hsp, hord⟩ := rot_frame op .memHL s
  exact ⟨encode_rot op .memHL, t, res, hexec, hbits, hstored, hflags, hregs, hsp, hord⟩

/-! ### BIT -/

/-- An operation on A that leaves A leaves every register. -/
theorem regsExcept_nil_of_onlyAF {len t : Nat} {s u : State} (h : OnlyAF len t s u) (ha : u.a = s.a) :
    RegsExcept [] s u := by
  intro r _
  by_cases hr : r = .a
  · exact hr ▸ ha
  · exact h.regs r (List.mem_singleton.not.2 hr)

/-- Settles O54: BIT applies a record that keeps C, and the operand is read after the fetch, which moves no data. -/
theorem bitTestsWriteOnlyFlags : Obligations.BitTestsWriteOnlyFlags := by
  intro b o s
  have hexec : exec (Family.bit b o) s =
      .next (((s.passBytes 2).applyFlags (bitFlags b.val (s.readR8 o))).report (cyclesOn o 8 12)) := by
    simp [exec_bit, cbBit]
  obtain ⟨ha, hflags, hframe⟩ := applyFlags_frame (bitFlags b.val (s.readR8 o)) s 1 (cyclesOn o 8 12) rfl
  exact ⟨encode_bit b o, _, hexec, hflags, regsExcept_nil_of_onlyAF hframe ha, hframe.sp, hframe.mem, hframe.ordinary⟩

/-! ### RES and SET -/

/-- The mask `1 << b` has bit `b` only. -/
theorem getLsbD_one_shiftLeft {b k : Nat} (hk : k < 8) : (1#8 <<< b).getLsbD k = decide (k = b) := by
  rw [← BitVec.twoPow_eq, BitVec.getLsbD_twoPow, ← Bool.decide_and, decide_eq_decide]
  omega

/-- Clearing a bit (R342). -/
theorem getLsbD_clearBit (v : Byte) (b : Nat) {k : Nat} (hk : k < 8) :
    (v &&& ~~~(1#8 <<< b)).getLsbD k = if k = b then false else v.getLsbD k := by
  rw [BitVec.getLsbD_and, BitVec.getLsbD_not, getLsbD_one_shiftLeft hk]
  by_cases h : k = b <;> simp [h, hk]

/-- Setting a bit (R344). -/
theorem getLsbD_setBit (v : Byte) (b : Nat) {k : Nat} (hk : k < 8) :
    (v ||| (1#8 <<< b)).getLsbD k = if k = b then true else v.getLsbD k := by
  rw [BitVec.getLsbD_or, getLsbD_one_shiftLeft hk]
  by_cases h : k = b <;> simp [h]

/-- Settles O55: RES and SET write the operand with one bit cleared or set, and no record. -/
theorem resAndSetChangeOneBit : Obligations.ResAndSetChangeOneBit := by
  rintro b o s i x v (⟨rfl, rfl, rfl⟩ | ⟨rfl, rfl, rfl⟩)
  · exact ⟨encode_res b o, _, _, exec_res b o s, fun k hk => getLsbD_clearBit (s.readR8 o) b.val hk,
      operandWrite_frame o _ s 1 _ (by simp)⟩
  · exact ⟨encode_set b o, _, _, exec_set b o s, fun k hk => getLsbD_setBit (s.readR8 o) b.val hk,
      operandWrite_frame o _ s 1 _ (by simp)⟩

end Sys2Proof.Proofs

/-! The statements of control transfer (46_control.md): a jump writes PC, a call also pushes the address after the
instruction, and a return pops PC. -/

namespace Sys2Proof.Proofs

open Sys2Proof.Machine Sys2Proof.Laws

/-! ### The encodings of the conditional forms and RST -/

theorem encode_jpCond (cc : Cond) (a : Word) :
    encode (Family.jpCond cc a) = [3#2 ++ 0#1 ++ cc.code ++ 2#3, lo a, hi a] := by
  cases cc <;> rfl

theorem encode_jrCond (cc : Cond) (e : Byte) : encode (Family.jrCond cc e) = [0#2 ++ 1#1 ++ cc.code ++ 0#3, e] := by
  cases cc <;> rfl

theorem encode_callCond (cc : Cond) (a : Word) :
    encode (Family.callCond cc a) = [3#2 ++ 0#1 ++ cc.code ++ 4#3, lo a, hi a] := by
  cases cc <;> rfl

theorem encode_retCond (cc : Cond) : encode (Family.retCond cc) = [3#2 ++ 0#1 ++ cc.code ++ 0#3] := by
  cases cc <;> rfl

theorem encode_rst (r : Fin 8) : encode (Family.rst r) = [3#2 ++ (BitVec.ofFin r : BitVec 3) ++ 7#3] := by
  fin_cases r <;> rfl

/-! ### JP and JR -/

/-- PC is in no 8-bit register. -/
theorem reg8_with_pc (s : State) (a : Word) (r : Reg8) : ({ s with pc := a } : State).reg8 r = s.reg8 r := by
  cases r <;> rfl

/-- After the fetch PC is already at the next instruction. -/
theorem passBytes_with_pc (n : Nat) (s : State) :
    ({ s.passBytes (n + 1) with pc := seqPC (n + 1) s } : State) = s.passBytes (n + 1) := by
  rw [passBytes_eq]

/-- A jump changes PC and no data. -/
theorem jump_frame (a : Word) (s : State) (n t : Nat) {u : State}
    (hu : u = ({ s.passBytes (n + 1) with pc := a } : State).report t) :
    u.pc = a ∧ SameData s u ∧ Kept s u ∧ Reported t s u := by
  subst hu
  refine ⟨rfl, ⟨fun r _ => ?_, by simp, by simp, sameMem_of_mem (by simp) (by simp)⟩, ?_, by simp [Reported]⟩
  · rw [reg8_report, reg8_with_pc, reg8_passBytes]
  · constructor <;> simp

/-- A transfer not taken passes the instruction's bytes: a jump to the next instruction. -/
theorem notTaken_frame (s : State) (n t : Nat) {u : State} (hu : u = (s.passBytes (n + 1)).report t) :
    u.pc = seqPC (n + 1) s ∧ SameData s u ∧ Kept s u ∧ Reported t s u :=
  jump_frame _ s n t (by rw [passBytes_with_pc, hu])

/-- JP cc and JR cc: the condition chooses the target and the count. -/
theorem jumpWhen_frame (c : Bool) (a : Word) (s : State) (n taken notTaken : Nat) {u : State}
    (hu : u = if c then ({ s.passBytes (n + 1) with pc := a } : State).report taken
      else (s.passBytes (n + 1)).report notTaken) :
    u.pc = (if c then a else seqPC (n + 1) s) ∧ SameData s u ∧ Kept s u ∧
      Reported (if c then taken else notTaken) s u := by
  cases c with
  | true => exact jump_frame a s n taken hu
  | false => exact notTaken_frame s n notTaken hu

/-- The target of JR (R363). -/
theorem jr_target (e : Byte) (s : State) :
    (s.passBytes 2).pc + sext16 e = seqPC 2 s + BitVec.ofInt 16 e.toInt := by
  rw [passBytes_pc, sext16_eq]

/-- Settles O56: each form is a jump; the target of JP HL is read after the fetch, which moves no register. -/
theorem jumpsSetPC : Obligations.JumpsSetPC := by
  intro a e cc s
  refine ⟨⟨rfl, _, rfl, jump_frame a s 2 16 rfl⟩,
    ⟨encode_jpCond cc a, _, ?_, jumpWhen_frame (s.cond cc) a s 2 16 12 rfl⟩,
    ⟨rfl, _, rfl, jump_frame s.hl s 0 4 ?_⟩, ⟨rfl, _, rfl, jump_frame _ s 1 12 ?_⟩,
    ⟨encode_jrCond cc e, _, ?_, jumpWhen_frame (s.cond cc) _ s 1 12 8 rfl⟩⟩
  · rw [exec_jpCond, jumpIf_eq]
  · rw [hl_passBytes]
  · rw [jr_target]
  · rw [exec_jrCond, jumpRelIf_eq, jr_target]

/-! ### CALL and RST -/

/-- A call changes PC, SP and the two bytes below it, which hold the address after the instruction. -/
theorem call_frame (a : Word) (s : State) (n t : Nat) {u : State}
    (hu : u = ({ (s.passBytes (n + 1)).push16 (s.passBytes (n + 1)).pc with pc := a } : State).report t) :
    u.pc = a ∧ u.sp = s.sp - 2 ∧ PushedAt s.sp (seqPC (n + 1) s) s u ∧ RegsExcept [] s u ∧ u.f = s.f ∧ Kept s u ∧
      Reported t s u := by
  subst hu
  refine ⟨rfl, by simp, pushedAt_of_mem (by simp) (by simp), fun r _ => ?_, by simp, ?_, by simp [Reported]⟩
  · rw [reg8_report, reg8_with_pc, reg8_push16, reg8_passBytes]
  · constructor <;> simp

/-- CALL cc: a call, or the three bytes passed. -/
theorem callCond_frame (cc : Cond) (a : Word) (s : State) : ∃ t, exec (Family.callCond cc a) s = .next t ∧ Kept s t ∧
    (s.cond cc = true → t.pc = a ∧ t.sp = s.sp - 2 ∧ PushedAt s.sp (seqPC 3 s) s t ∧ RegsExcept [] s t ∧ t.f = s.f ∧
      Reported 24 s t) ∧
    (s.cond cc = false → t.pc = seqPC 3 s ∧ SameData s t ∧ Reported 12 s t) := by
  refine ⟨_, (exec_callCond cc a s).trans (callIf_eq cc a s), ?_⟩
  cases s.cond cc with
  | true =>
    obtain ⟨hpc, hsp, hpushed, hregs, hf, hkept, hrep⟩ := call_frame a s 2 24 rfl
    exact ⟨hkept, fun _ => ⟨hpc, hsp, hpushed, hregs, hf, hrep⟩, nofun⟩
  | false =>
    obtain ⟨hpc, hdata, hkept, hrep⟩ := notTaken_frame s 2 12 rfl
    exact ⟨hkept, nofun, fun _ => ⟨hpc, hdata, hrep⟩⟩

/-- Settles O57: each form taken is a call; RST's target is in its byte. -/
theorem callsPushTheReturnAddress : Obligations.CallsPushTheReturnAddress := fun a cc r s =>
  ⟨⟨rfl, _, rfl, call_frame a s 2 24 rfl⟩, ⟨encode_callCond cc a, callCond_frame cc a s⟩,
    ⟨encode_rst r, _, exec_rst r s, call_frame (rstTarget r) s 0 16 rfl⟩⟩

/-! ### RET and RETI -/

/-- A pop after the fetch reads the word on the stack and changes SP only. -/
theorem pop16_passBytes_frame (s : State) (n : Nat) : (s.passBytes n).pop16.1 = stackTop s ∧
    (s.passBytes n).pop16.2.sp = s.sp + 2 ∧ RegsExcept [] s (s.passBytes n).pop16.2 ∧
    (s.passBytes n).pop16.2.f = s.f ∧ SameMem s (s.passBytes n).pop16.2 :=
  ⟨pop16_passBytes_fst s n, by simp, fun r _ => by simp, by simp, sameMem_of_mem (by simp) (by simp)⟩

/-- A return changes PC and SP only. -/
theorem return_frame (s : State) (n t : Nat) {u : State}
    (hu : u = ({ (s.passBytes (n + 1)).pop16.2 with pc := (s.passBytes (n + 1)).pop16.1 } : State).report t) :
    u.pc = stackTop s ∧ u.sp = s.sp + 2 ∧ RegsExcept [] s u ∧ u.f = s.f ∧ SameMem s u ∧ Kept s u ∧ Reported t s u := by
  subst hu
  obtain ⟨hpc, hsp, hregs, hf, hmem⟩ := pop16_passBytes_frame s (n + 1)
  refine ⟨hpc, hsp, hregs, hf, hmem, ?_, by simp [Reported]⟩
  constructor <;> simp

/-- RET cc: a return, or the byte passed. -/
theorem retCond_frame (cc : Cond) (s : State) : ∃ t, exec (Family.retCond cc) s = .next t ∧ RegsExcept [] s t ∧
    t.f = s.f ∧ SameMem s t ∧ Kept s t ∧
    (s.cond cc = true → t.pc = stackTop s ∧ t.sp = s.sp + 2 ∧ Reported 20 s t) ∧
    (s.cond cc = false → t.pc = seqPC 1 s ∧ t.sp = s.sp ∧ Reported 8 s t) := by
  refine ⟨_, (exec_retCond cc s).trans (returnIf_eq cc s), ?_⟩
  cases s.cond cc with
  | true =>
    obtain ⟨hpc, hsp, hregs, hf, hmem, hkept, hrep⟩ := return_frame s 0 20 rfl
    exact ⟨hregs, hf, hmem, hkept, fun _ => ⟨hpc, hsp, hrep⟩, nofun⟩
  | false =>
    obtain ⟨hpc, ⟨hregs, hsp, hf, hmem⟩, hkept, hrep⟩ := notTaken_frame s 0 8 rfl
    exact ⟨hregs, hf, hmem, hkept, nofun, fun _ => ⟨hpc, hsp, hrep⟩⟩

/-- Settles O58: each form taken pops PC; RETI's writes to the control state and its event stand beside the pop. -/
theorem returnsPopPC : Obligations.ReturnsPopPC := by
  intro cc s
  obtain ⟨hpc, hsp, hregs, hf, hmem⟩ := pop16_passBytes_frame s 1
  exact ⟨⟨rfl, _, rfl, return_frame s 0 16 rfl⟩, ⟨encode_retCond cc, retCond_frame cc s⟩,
    ⟨rfl, _, rfl, hpc, hsp, hregs, hf, hmem, rfl, rfl, rfl, rfl, rfl, rfl, rfl, rfl⟩⟩

end Sys2Proof.Proofs

/-! The statements of 47_system.md: the phases of the step, what a step reports, the system instructions and the
undefined opcodes. -/

namespace Sys2Proof.Proofs

open Sys2Proof.Machine Sys2Proof.Laws

/-! ### What an instruction reports -/

/-- A count of T-cycles that R470 allows. -/
abbrev WholeCount (n : Nat) : Prop := 0 < n ∧ n % 4 = 0

theorem wholeCount_cyclesOn (o : Operand8) {r m : Nat} (hr : WholeCount r) (hm : WholeCount m) :
    WholeCount (cyclesOn o r m) := by
  cases o with
  | reg => exact hr
  | memHL => exact hm

/-- How an instruction ends: with a count and no event in a core that is not newly locked, with RETI's event, or with
the lock or the skipping of an undefined opcode. -/
inductive ReportEffect : Instr → State → State → Prop where
  | quiet {i : Instr} {s u : State} {n : Nat} (hn : WholeCount n) (hc : u.cfg = s.cfg)
    (hr : u.run = s.run ∨ u.run = .halted ∨ u.run = .stopped) : ReportEffect i s (u.report n)
  | reti (s : State) : ReportEffect .reti s (s.passBytes 1).returnFromInterrupt
  | lock {i : Instr} (s : State) (op : Byte) : ReportEffect i s (s.lockAtOpcode op)
  | skip {i : Instr} (s : State) (op : Byte) (hp : s.cfg.illegalPolicy ≠ .lock) : ReportEffect i s (s.skipOpcode op)

/-- The term `prefix_CB` ends as its CB row does (R395), and no CB row is RETI. -/
theorem ReportEffect.prefix_CB {xx : Byte} {s t : State} (h : ReportEffect (decodeCB xx) s t) :
    ReportEffect (.prefix_CB xx) s t := by
  generalize hi : decodeCB xx = i at h
  cases h with
  | quiet hn hc hr => exact .quiet hn hc hr
  | reti => exact absurd (hi ▸ encode_decodeCB_head xx) (by decide)
  | lock _ op => exact .lock s op
  | skip _ op hp => exact .skip s op hp

theorem exec_reportEffect {i : Instr} {s t : State} (h : exec i s = .next t) : ReportEffect i s t := by
  apply exec_cases (Q := ReportEffect) (h := h)
  case reti => exact .reti
  case undef =>
    intro u s
    split
    · exact .lock s u.byte
    · next hp => exact .skip s u.byte hp
  case prefix_CB => intro xx s t _ ht; exact ht.prefix_CB
  case halt =>
    intro s
    split
    · exact .quiet (by decide) (by simp) (.inl (by simp))
    · exact .quiet (by decide) (by simp) (.inr (.inl rfl))
  case stop => intro x s; exact .quiet (by decide) (by simp) (.inr (.inr rfl))
  case ldImm | alu | inc8 | dec8 | rot | bit | res | set =>
    intros
    exact .quiet (wholeCount_cyclesOn _ (by decide) (by decide)) (by simp) (.inl (by simp))
  case jpCond | jrCond | callCond | retCond =>
    intros
    split <;> exact .quiet (by decide) (by simp) (.inl (by simp))
  all_goals intros; exact .quiet (by decide) (by simp) (.inl (by simp))

/-! ### The step always answers -/

theorem exec_keeps_cfg_inputs {i : Instr} {s t : State} (h : exec i s = .next t) :
    t.cfg = s.cfg ∧ t.inputs = s.inputs := by
  cases exec_controlEffect h with
  | kept k => exact ⟨k.cfg, k.inputs⟩
  | lock => simp [State.lockAtOpcode]
  | reti => simp [State.returnFromInterrupt]
  | di | ei | haltBug | halt | stop => simp

/-- Settles O7: the phases but the last are next states by definition, and every instruction answers. -/
theorem stepAlwaysAnswers : Obligations.StepAlwaysAnswers := by
  intro s
  rcases step_cases s with ⟨_, _, _, e⟩ | ⟨_, e⟩ | ⟨_, _, _, _, e⟩ | ⟨_, _, e⟩ | ⟨_, _, e⟩
  · exact ⟨_, e, rfl, rfl⟩
  · rw [stoppedPhase_eq] at e
    exact ⟨_, e, rfl, rfl⟩
  · exact ⟨_, e, rfl, rfl⟩
  · rw [haltedPhase_eq] at e
    exact ⟨_, e, rfl, rfl⟩
  · obtain ⟨t, ht⟩ := exec_answers s.fetchInstr s.takeInput.promoteEI
    obtain ⟨hcfg, hinputs⟩ := exec_keeps_cfg_inputs ht
    exact ⟨t, e.trans ht, by simpa using hinputs, by simpa using hcfg⟩

/-! ### Phases 1, 2 and 4 -/

theorem step_locked {s : State} {op : Byte} {addr : Word} (hr : s.run = .locked op addr) :
    step s = .next (s.takeInput.lockedPhase op addr) := by
  rcases step_cases s with ⟨_, _, h, e⟩ | ⟨h, _⟩ | ⟨_, h, _⟩ | ⟨h, _⟩ | ⟨h, _⟩
  · obtain ⟨rfl, rfl⟩ := Run.locked.inj (hr.symm.trans h)
    exact e
  all_goals simp [hr] at h

theorem step_stopped {s : State} (hr : s.run = .stopped) : step s = .next s.takeInput.stoppedPhase := by
  rcases step_cases s with ⟨_, _, h, _⟩ | ⟨_, e⟩ | ⟨_, h, _⟩ | ⟨h, _⟩ | ⟨h, _⟩
  case inr.inl => exact e
  all_goals simp [hr] at h

theorem step_halted {s : State} (hr : s.run = .halted) (hq : s.ime = false ∨ s.nextInput.request = none) :
    step s = .next s.takeInput.haltedPhase := by
  rcases step_cases s with ⟨_, _, h, _⟩ | ⟨h, _⟩ | ⟨_, _, hi, hv, _⟩ | ⟨_, _, e⟩ | ⟨h, _⟩
  case inr.inr.inl => simp [hi, hv] at hq
  case inr.inr.inr.inl => exact e
  all_goals simp [hr] at h

/-- A locked core after `n + 1` steps: as many inputs are taken, and the last step's report is there. -/
theorem run_locked (n : Nat) {s : State} {op : Byte} {addr : Word} (hr : s.run = .locked op addr) :
    Sys2Proof.core.run (n + 1) s = .next (({ s with
      inputs := s.inputs.drop (n + 1)
      input := (s.inputs.drop n).headD StepInput.empty } : State).lockedPhase op addr) := by
  induction n generalizing s with
  | zero =>
    rw [core_run_succ 0 (step_locked hr)]
    simp [Host.Core.run, State.takeInput, State.nextInput]
  | succ n ih =>
    rw [core_run_succ (n + 1) (step_locked hr), ih (s := s.takeInput.lockedPhase op addr) hr]
    simp [State.lockedPhase, State.reportIllegal]

/-- Settles O8: in the closed form after `n + 1` steps, only the inputs and the report are new. -/
theorem lockedCoreIdlesForEver : Obligations.LockedCoreIdlesForEver := fun n _ _ _ hr =>
  ⟨_, run_locked n hr, rfl, rfl⟩

/-- Settles O9: phases 2 and 4 write the run state, and it stays as it is without its wake-up line. -/
theorem waitingCoreIdles : Obligations.WaitingCoreIdles := by
  rintro s _ rfl
  refine ⟨fun hr => ?_, fun hr hq => ?_⟩
  · rw [step_stopped hr, stoppedPhase_eq, takeInput_run, hr]
    rfl
  · rw [step_halted hr hq, haltedPhase_eq, takeInput_run, hr]
    rfl

/-! ### Counts and events -/

theorem cyclesIn_wholeCount {n : Nat} (h : WholeCount n) (u : CycleUnit) :
    0 < cyclesIn u n ∧ (u = .tCycles → cyclesIn u n % 4 = 0) := by
  obtain ⟨hpos, hmod⟩ := h
  cases u with
  | tCycles => exact ⟨hpos, fun _ => hmod⟩
  | mCycles => exact ⟨Nat.div_pos (by omega) (by decide), nofun⟩

theorem ReportEffect.wholeCount {i : Instr} {s t : State} (h : ReportEffect i s t) :
    ∃ n, WholeCount n ∧ t.out.cycles = cyclesIn s.cfg.cycleUnit n := by
  cases h with
  | quiet hn hc => exact ⟨_, hn, by simp [hc]⟩
  | reti => exact ⟨16, by decide, by simp [State.returnFromInterrupt]⟩
  | lock | skip => exact ⟨4, by decide, by simp [State.lockAtOpcode, State.skipOpcode]⟩

/-- Every phase reports a count of R470 in the configured unit. -/
theorem step_wholeCount {s t : State} (h : step s = .next t) :
    ∃ n, WholeCount n ∧ t.out.cycles = cyclesIn s.cfg.cycleUnit n := by
  rcases step_cases s with ⟨_, _, _, e⟩ | ⟨_, e⟩ | ⟨_, _, _, _, e⟩ | ⟨_, _, e⟩ | ⟨_, _, e⟩ <;> rw [e] at h
  · cases h
    exact ⟨4, by decide, rfl⟩
  · cases h
    exact ⟨4, by decide, by rw [stoppedPhase_eq]; rfl⟩
  · cases h
    exact ⟨20, by decide, rfl⟩
  · cases h
    exact ⟨4, by decide, by rw [haltedPhase_eq]; rfl⟩
  · simpa using (exec_reportEffect h).wholeCount

/-- Settles O12: every count reported is one of R470, in T-cycles or divided by 4. -/
theorem cyclesArePositiveMultiplesOfFour : Obligations.CyclesArePositiveMultiplesOfFour := by
  intro s t h
  obtain ⟨n, hn, hcycles⟩ := step_wholeCount h
  rw [hcycles]
  exact cyclesIn_wholeCount hn s.cfg.cycleUnit

theorem exec_accepts_nothing {i : Instr} {s t : State} (h : exec i s = .next t) : t.out.accepted = false := by
  cases exec_reportEffect h <;> rfl

theorem exec_reti_iff {i : Instr} {s t : State} (h : exec i s = .next t) : t.out.reti = true ↔ i = .reti := by
  constructor
  · intro hreti
    cases exec_reportEffect h with
    | reti => rfl
    | quiet | lock | skip => exact absurd hreti Bool.false_ne_true
  · rintro rfl
    cases h
    rfl

/-- Under LOCK an instruction of a running core reports `illegal` exactly when it locks the core. -/
theorem exec_illegal_iff {i : Instr} {s t : State} (h : exec i s = .next t) (hr : s.run = .running)
    (hp : s.cfg.illegalPolicy = .lock) (op : Byte) (addr : Word) :
    t.out.illegal = some (op, addr) ↔ t.run = .locked op addr := by
  cases exec_reportEffect h with
  | quiet _ _ hrun => rcases hrun with e | e | e <;> simp [e, hr]
  | reti => simp [State.returnFromInterrupt, hr]
  | lock => simp [State.lockAtOpcode]
  | skip _ _ hn => exact absurd hp hn

/-- A core that runs or waits accepts nothing exactly when IME is 0 or no request waits (R430). -/
theorem accepts_iff (s : State) : s.ime = true ∧ s.nextInput.request ≠ none ↔
    ¬(s.ime = false ∨ s.nextInput.request = none) := by
  simp

theorem step_accepted_iff {s t : State} (h : step s = .next t) : t.out.accepted = true ↔
    (s.run = .running ∨ s.run = .halted) ∧ s.ime = true ∧ s.nextInput.request ≠ none := by
  rcases step_cases s with ⟨_, _, hr, e⟩ | ⟨hr, e⟩ | ⟨_, hr, hi, hv, e⟩ | ⟨_, hq, e⟩ | ⟨_, hq, e⟩ <;> rw [e] at h
  · cases h
    simp [State.lockedPhase, hr]
  · cases h
    simp [stoppedPhase_eq, hr]
  · cases h
    simp [State.dispatchInterrupt, hr, hi, hv]
  · cases h
    simp [haltedPhase_eq, accepts_iff, hq]
  · simp [exec_accepts_nothing h, accepts_iff, hq]

theorem step_reti_iff {s t : State} (h : step s = .next t) : t.out.reti = true ↔
    s.run = .running ∧ (s.ime = false ∨ s.nextInput.request = none) ∧ s.fetchInstr = .reti := by
  rcases step_cases s with ⟨_, _, hr, e⟩ | ⟨hr, e⟩ | ⟨_, _, hi, hv, e⟩ | ⟨hr, _, e⟩ | ⟨hr, hq, e⟩ <;> rw [e] at h
  · cases h
    simp [State.lockedPhase, hr]
  · cases h
    simp [stoppedPhase_eq, hr]
  · cases h
    simp [State.dispatchInterrupt, hi, hv]
  · cases h
    simp [haltedPhase_eq, hr]
  · simp [exec_reti_iff h, hr, hq]

theorem step_illegal_iff {s t : State} (h : step s = .next t) (hp : s.cfg.illegalPolicy = .lock) (op : Byte)
    (addr : Word) : t.out.illegal = some (op, addr) ↔ t.run = .locked op addr := by
  rcases step_cases s with ⟨_, _, hr, e⟩ | ⟨hr, e⟩ | ⟨_, hr, _, _, e⟩ | ⟨hr, _, e⟩ | ⟨hr, _, e⟩ <;> rw [e] at h
  · cases h
    simp [State.lockedPhase, hr]
  · cases h
    rw [stoppedPhase_eq]
    cases s.takeInput.input.joypadWake <;> simp [hr]
  · cases h
    rcases hr with hr | hr <;> simp [State.dispatchInterrupt, hr]
  · cases h
    rw [haltedPhase_eq]
    cases s.takeInput.input.irqPending <;> simp [hr]
  · exact exec_illegal_iff h (by simpa using hr) (by simpa using hp) op addr

/-- Settles O11: each event is read off the phase that ran. -/
theorem eventsAreReportedWhereTheyHappen : Obligations.EventsAreReportedWhereTheyHappen := fun _ _ h =>
  ⟨step_accepted_iff h, step_reti_iff h, step_illegal_iff h⟩

/-! ### The instruction at PC -/

/-- Settles O6: the bytes at PC decode to the instruction, and the state it starts in is written out. -/
theorem stepRunsTheInstructionAtPC : Obligations.StepRunsTheInstructionAtPC := by
  intro s i hr hq hw hbytes
  have hfetch : s.fetchInstr = i :=
    (fetchInstr_eq s).trans (decodeBytes_of_bytes (bytes := fun k => s.read8 (fetchAddr s k)) hw hbytes)
  rw [step_running hr hq, hfetch, promoteEI_eq]
  rfl

/-! ### The system instructions and the undefined opcodes -/

theorem exec_nop (s : State) : exec .nop s = .next ((s.passBytes 1).report 4) := rfl

theorem exec_di (s : State) :
    exec .di s = .next (({ s.passBytes 1 with ime := false, eiPending := false } : State).report 4) := rfl

theorem exec_ei (s : State) : exec .ei s = .next (({ s.passBytes 1 with eiPending := true } : State).report 4) := rfl

theorem exec_stop (x : Byte) (s : State) :
    exec (.stop x) s = .next (({ s.passBytes 2 with run := .stopped } : State).report 4) := rfl

theorem exec_halt_of_pending {s : State} (hi : s.ime = false) (hp : s.input.irqPending = true) :
    exec .halt s = .next (({ s.passBytes 1 with haltBug := true } : State).report 4) := by
  refine (haltCore_eq s).trans ?_
  simp [hi, hp]

theorem exec_halt_of_waits {s : State} (h : s.ime = true ∨ s.input.irqPending = false) :
    exec .halt s = .next (({ s.passBytes 1 with run := .halted } : State).report 4) := by
  refine (haltCore_eq s).trans ?_
  rcases h with h | h <;> simp [h]

/-- Settles O59: each meaning passes its bytes, writes its control bits and ends. -/
theorem systemInstructions : Obligations.SystemInstructions := by
  rintro x s _ rfl
  refine ⟨⟨rfl, ?_⟩, ⟨rfl, ?_⟩, ⟨rfl, ?_⟩, ⟨rfl, ?_⟩, rfl, fun ⟨hi, hp⟩ => ?_, fun hwait => ?_⟩
  · rw [exec_nop, passBytes_eq]
    rfl
  · rw [exec_di, passBytes_eq]
    rfl
  · rw [exec_ei, passBytes_eq]
    rfl
  · rw [exec_stop, passBytes_eq]
    rfl
  · rw [exec_halt_of_pending hi hp, passBytes_eq]
    rfl
  · rw [exec_halt_of_waits hwait, passBytes_eq]
    rfl

/-- Settles O60: the policy chooses the lock or the skip, and either fetches one byte. -/
theorem undefinedOpcodesLockOrSkip : Obligations.UndefinedOpcodesLockOrSkip := by
  rintro u s _ rfl
  rw [exec_undef, undefinedOpcode_eq]
  refine ⟨fun hp => ?_, fun hp => ?_⟩
  · rw [if_pos hp, State.lockAtOpcode, passBytes_eq]
    rfl
  · rw [if_neg (by simp [hp]), State.skipOpcode, passBytes_eq]
    rfl

end Sys2Proof.Proofs

/-! The statement of 60_exceptions.md: interrupt dispatch, phase 3 of the step. -/

namespace Sys2Proof.Proofs

open Sys2Proof.Machine Sys2Proof.Laws

/-! ### Phase 3 -/

theorem step_dispatch {s : State} {v : Word} (hr : s.run = .running ∨ s.run = .halted) (hi : s.ime = true)
    (hv : s.nextInput.request = some v) : step s = .next (s.takeInput.dispatchInterrupt v) := by
  rcases step_cases s with ⟨_, _, h, _⟩ | ⟨h, _⟩ | ⟨w, _, _, hw, e⟩ | ⟨_, hq, _⟩ | ⟨_, hq, _⟩
  · simp [h] at hr
  · simp [h] at hr
  · obtain rfl : v = w := Option.some.inj (hv.symm.trans hw)
    exact e
  · simp [hi, hv] at hq
  · simp [hi, hv] at hq

/-- A halted core wakes, a running one runs on. -/
theorem dispatchInterrupt_run {s : State} (hr : s.run = .running ∨ s.run = .halted) (v : Word) :
    (s.dispatchInterrupt v).run = .running := by
  rcases hr with hr | hr <;> simp [State.dispatchInterrupt, hr]

theorem reg8_dispatchInterrupt (s : State) (v : Word) (r : Reg8) : (s.dispatchInterrupt v).reg8 r = s.reg8 r := by
  cases r <;> rfl

/-- Settles O10: phase 3 applies, and a dispatch pushes PC from the state whose input was taken. -/
theorem dispatchPushesPCAndJumps : Obligations.DispatchPushesPCAndJumps := by
  intro s v hr hi hv
  have hsp : (s.takeInput.dispatchInterrupt v).sp = s.sp - 2 := sub_one_sub_one s.sp
  have hpushed : PushedAt s.sp s.pc s (s.takeInput.dispatchInterrupt v) := pushedAt_of_mem rfl rfl
  have hrun : (s.takeInput.dispatchInterrupt v).run = .running := dispatchInterrupt_run hr v
  have hregs : RegsExcept [] s (s.takeInput.dispatchInterrupt v) := fun r _ => reg8_dispatchInterrupt s.takeInput v r
  exact ⟨_, step_dispatch hr hi hv, rfl, hsp, hpushed, rfl, rfl, hrun, rfl, hregs, rfl, rfl, rfl, rfl⟩

end Sys2Proof.Proofs

/-! The statements of 70_reset_and_hazards.md: the cycle tables, the cheaper false condition, and the HALT bug. -/

namespace Sys2Proof.Proofs

open Sys2Proof.Machine Sys2Proof.Laws

/-! ### The tables' entries -/

/-- The CB table reads the operand field, and block 1 (BIT) is the cheaper on (HL) (R472). -/
theorem cbCycles_of_fields (x : BitVec 2) (y : BitVec 3) (o : Operand8) :
    cbCycles (x ++ y ++ o.code) = cyclesOn o 8 (if x = 1 then 12 else 16) := by
  rcases o with ⟨⟨⟩⟩ | _ <;> revert x y <;> decide

theorem tableCycles_cb {i : Instr} {xx : Byte} (h : encode i = [0xCB, xx]) (s : State) :
    tableCycles i s = cbCycles xx := by
  simp [tableCycles, h]

theorem tableCycles_prefix_CB (xx : Byte) (s : State) :
    tableCycles (.prefix_CB xx) s = tableCycles (decodeCB xx) s :=
  (tableCycles_cb rfl s).trans (tableCycles_cb (encode_decodeCB xx) s).symm

/-- A conditional opcode's count is the taken or the not-taken entry (R471), by the condition in the state before. -/
theorem tableCycles_of_condition {i : Instr} {op : Byte} {cc : Cond} (hop : (encode i).head? = some op)
    (hcc : conditionOf op = some cc) (s : State) :
    tableCycles i s =
      if s.cond cc then (primaryCycles.getD op.toNat (0, 0)).1 else (primaryCycles.getD op.toNat (0, 0)).2 := by
  obtain ⟨rest, he⟩ := List.head?_eq_some_iff.1 hop
  have hne : op ≠ 0xCB := by
    rintro rfl
    cases hcc
  simp only [tableCycles, he, hcc, if_neg hne]

/-- In the primary table a conditional opcode saves at least one M-cycle when its condition is false. -/
theorem primaryCycles_of_condition {op : Byte} {cc : Cond} (h : conditionOf op = some cc) :
    (primaryCycles.getD op.toNat (0, 0)).2 + 4 ≤ (primaryCycles.getD op.toNat (0, 0)).1 := by
  have hall : ∀ op : Byte, (conditionOf op).isSome = true →
      (primaryCycles.getD op.toNat (0, 0)).2 + 4 ≤ (primaryCycles.getD op.toNat (0, 0)).1 := by decide
  exact hall op (by simp [h])

/-! ### Every instruction against the tables -/

/-- The next state reports the tables' count for the state before. -/
def CountedByTable (i : Instr) (s t : State) : Prop :=
  t.out.cycles = cyclesIn s.cfg.cycleUnit (tableCycles i s)

theorem CountedByTable.of_report {i : Instr} {s u : State} {n : Nat} (hn : tableCycles i s = n)
    (hc : u.cfg = s.cfg) : CountedByTable i s (u.report n) := by
  simp [CountedByTable, hn, hc]

/-- An instruction whose meaning branches on its condition reports the entry of the branch. -/
theorem CountedByTable.of_condition {i : Instr} {s u v : State} {cc : Cond} {n m : Nat}
    (hn : tableCycles i s = if s.cond cc then n else m) (hu : u.cfg = s.cfg) (hv : v.cfg = s.cfg) :
    CountedByTable i s (if s.cond cc then u.report n else v.report m) := by
  cases hcc : s.cond cc with
  | true => exact .of_report (by simp [hn, hcc]) hu
  | false => exact .of_report (by simp [hn, hcc]) hv

/-- A CB row reports its family's entry for its operand. -/
theorem CountedByTable.of_cb {i : Instr} {s u : State} {x : BitVec 2} {y : BitVec 3} {o : Operand8} {m : Nat}
    (h : encode i = [0xCB, x ++ y ++ o.code]) (hm : (if x = 1 then 12 else 16) = m) (hc : u.cfg = s.cfg) :
    CountedByTable i s (u.report (cyclesOn o 8 m)) :=
  .of_report (by rw [tableCycles_cb h, cbCycles_of_fields, hm]) hc

/-- Family by family, the count of the meaning is the entry of the opcode's cell. -/
theorem exec_countedByTable {i : Instr} {s t : State} (h : exec i s = .next t) : CountedByTable i s t := by
  apply exec_cases (Q := CountedByTable) (h := h)
  case ldRegReg => intro dst src s; exact .of_report (by cases dst <;> cases src <;> rfl) (by simp)
  case ldRegMem | ldMemReg => intro r s; exact .of_report (by cases r <;> rfl) (by simp)
  case ldImm => intro o n s; exact .of_report (by rcases o with ⟨⟨⟩⟩ | _ <;> rfl) (by simp)
  case ldAInd | ldIndA => intro x s; exact .of_report (by cases x <;> rfl) (by simp)
  case ldReg16Imm => intro p v s; exact .of_report (by cases p <;> rfl) (by simp)
  case alu => intro op o s; exact .of_report (by cases op <;> rcases o with ⟨⟨⟩⟩ | _ <;> rfl) (by simp)
  case aluImm => intro op n s; exact .of_report (by cases op <;> rfl) (by simp)
  case inc8 | dec8 => intro o s; exact .of_report (by rcases o with ⟨⟨⟩⟩ | _ <;> rfl) (by simp)
  case push | pop | addHL | inc16 | dec16 => intro p s; exact .of_report (by cases p <;> rfl) (by simp)
  case rot => intro op o s; exact .of_cb (encode_rot op o) rfl (by simp)
  case bit => intro b o s; exact .of_cb (encode_bit b o) rfl (by simp)
  case res => intro b o s; exact .of_cb (encode_res b o) rfl (by simp)
  case set => intro b o s; exact .of_cb (encode_set b o) rfl (by simp)
  case prefix_CB => intro xx s t _ ht; exact ht.trans (by rw [tableCycles_prefix_CB])
  case jpCond | jrCond | callCond => intro cc x s; exact .of_condition (by cases cc <;> rfl) (by simp) (by simp)
  case retCond => intro cc s; exact .of_condition (by cases cc <;> rfl) (by simp) (by simp)
  case rst => intro r s; exact .of_report (by fin_cases r <;> rfl) (by simp)
  case undef =>
    intro u s
    have hn : tableCycles (Family.undef u) s = 4 := by cases u <;> rfl
    split <;> simp [CountedByTable, State.lockAtOpcode, State.skipOpcode, hn]
  case halt => intro s; split <;> exact .of_report rfl (by simp)
  case reti => intro s; rfl
  all_goals intros; exact .of_report rfl (by simp)

/-- Settles O17: each family's count is its cell's, and the term `prefix_CB` counts as its row. -/
theorem cycleTablesHold : Obligations.CycleTablesHold := fun _ _ _ _ h => exec_countedByTable h

/-! ### The false condition -/

/-- Four T-cycles fewer are fewer in either unit (R470). -/
theorem cyclesIn_lt {n m : Nat} (h : n + 4 ≤ m) (u : CycleUnit) : cyclesIn u n < cyclesIn u m := by
  cases u <;> simp only [cyclesIn] <;> omega

/-- Settles O18: the counts are the two entries of one cell, at least 4 T-cycles apart. -/
theorem falseConditionIsCheaper : Obligations.FalseConditionIsCheaper := by
  intro i op cc s s' t t' hop hcc hcfg hfalse htrue h h'
  have hnot : tableCycles i s = (primaryCycles.getD op.toNat (0, 0)).2 := by
    simp [tableCycles_of_condition hop hcc, hfalse]
  have htaken : tableCycles i s' = (primaryCycles.getD op.toNat (0, 0)).1 := by
    simp [tableCycles_of_condition hop hcc, htrue]
  rw [exec_countedByTable h, exec_countedByTable h', hnot, htaken, hcfg]
  exact cyclesIn_lt (primaryCycles_of_condition hcc) _

/-! ### The HALT bug -/

theorem promoteEI_of_not_pending {s : State} (h : s.eiPending = false) : s.promoteEI = s := by
  simp [State.promoteEI, h]

/-- With `halt_bug` set the byte at PC is fetched as opcode and as the byte after it (R391). -/
theorem fetchInstr_of_haltBug {s : State} (h : s.haltBug = true) :
    s.fetchInstr = decodeBytes (s.read8 s.pc) (s.read8 s.pc) (s.read8 (s.pc + 1)) := by
  simp [fetchInstr_eq, fetchAddr, h]

theorem seqPC_one_of_haltBug {s : State} (h : s.haltBug = true) : seqPC 1 s = s.pc := by
  simp [seqPC, h]

/-- Settles O22: HALT leaves a running core with IME 0 and `halt_bug` set, and so no request is accepted before the
byte after HALT is fetched. -/
theorem haltBugReadsTheNextByteTwice : Obligations.HaltBugReadsTheNextByteTwice := by
  intro s hr hi he hf hp
  set t := ({ s.takeInput.passBytes 1 with haltBug := true } : State).report 4 with ht
  have hstep : step s = .next t := by
    rw [step_running hr (.inl hi), hf, promoteEI_of_not_pending (s := s.takeInput) he]
    exact exec_halt_of_pending hi hp
  have hrun : t.run = .running := by simp [ht, hr]
  have hbug : t.haltBug = true := rfl
  have hime : t.ime = false := by simp [ht, hi]
  have hpend : t.takeInput.eiPending = false := by simp [ht, he]
  refine ⟨t, hstep, hrun, hbug, passBytes_pc 0 s.takeInput, ?_, ?_⟩
  · rw [step_running hrun (.inl hime), fetchInstr_of_haltBug hbug, promoteEI_of_not_pending hpend]
  · rw [passBytes_pc, seqPC_one_of_haltBug hbug]

end Sys2Proof.Proofs
